-- ==== Sys2Proof/Word.lean ====
section
/-! DEFINITION. The word types of the DELcore-30M model and the names of its two cores (spec 00_scope.md R8,
R11; 10_state.md R20..R30). Helpers that a later repair might have to mend (lanes, rounding, saturation) are in
Sys2Proof/Machine/Lanes.lean. -/

namespace Sys2Proof

/-- A 16-bit part (the view without a suffix, 00_scope.md R11). -/
abbrev Half := BitVec 16
/-- A 32-bit word: one word of XYRAM or PRAM, and the `.L` view (R11). -/
abbrev Word := BitVec 32
/-- The 64-bit `.D` view (R11). -/
abbrev Dbl := BitVec 64
/-- The 128-bit `.Q` view (R11). -/
abbrev Quad := BitVec 128
/-- The number of a register-file register, 0..31 (30_encoding.md R155). -/
abbrev Reg := BitVec 5

/-- The two DSP cores of the cluster (10_state.md R20). -/
inductive CoreId where
  | dsp0
  | dsp1
  deriving DecidableEq, Repr

/-- The other core of the two (60_exceptions.md R491). -/
def CoreId.other : CoreId → CoreId
  | .dsp0 => .dsp1
  | .dsp1 => .dsp0

/-- The core's number `i`, as one bit: the value of bit 15 of the addresses of its near segment (R104). -/
def CoreId.bit : CoreId → Bool
  | .dsp0 => false
  | .dsp1 => true

end Sys2Proof
end

