-- ==== Sys2Proof/Config.lean ====
section
/-! DEFINITION. What the spec leaves open: the parameters `CFG.x` of 00_scope.md R9 that are fixed for a run and
are plain data (structure `Config`, held by the state and changed by no step), and the uninterpreted functions and
free values, which are constants without a body (nothing in Lean can evaluate them or prove a value of them). -/

namespace Sys2Proof

/-- What an addressing-mode code of field `mode` or `AT` does (40_moves.md R183). -/
inductive Action where
  | noUpdate
  | postInc
  | postDec
  | postAddOffset
  | unknown
  deriving DecidableEq, Repr

/-- `CFG.MAXMIN_TIE` (47_compare_minmax.md R380): which local number wins when the extremum occurs twice in S. -/
inductive Tie where
  | lowest
  | highest
  deriving DecidableEq, Repr

/-- `CFG.RND` (00_scope.md R16): the spec's default rounding, or another one, which nothing constrains
(`Config.rndOther`). -/
inductive Rounding where
  | nearestEven
  | other
  deriving DecidableEq, Repr

/-- `CFG.MAC_N_FIELD` (00_scope.md R9): a field of the OP2 slot. -/
inductive SlotField where
  | t
  | s
  | d
  deriving DecidableEq, Repr

/-- The open parameters of 00_scope.md R9 that a run fixes. Per-core ones (`CFG.SAT`, `CFG.SCALE`, `CFG.scaled`,
`CFG.E`) stand in the core's state (10_state.md R68). -/
structure Config where
  /-- `CFG.DE_DIR` (R185): the value of `de` for which the RF register is the SOURCE of the move. -/
  deDir : Bool
  /-- `CFG.OP_RTS` (R169): the opcode OP shared by RTS and RTI. -/
  opRts : BitVec 7
  /-- `CFG.CC_ALWAYS` (R169): the condition code that means "always". -/
  ccAlways : BitVec 4
  /-- `CFG.AGU_MODE` (R183): field `mode` to action; a code beyond the list is `unknown`. -/
  aguMode : List Action
  /-- `CFG.AT_MODE` (R183): field `AT` to action; a code beyond the list is `unknown`. -/
  atMode : List Action
  /-- `CFG.RND` (R16; 92_eei_decisions.md D12). -/
  rounding : Rounding
  /-- `CFG.MAC_N_FIELD` (44_mac.md R275; 92_eei_decisions.md D9): the field that holds the accumulator number of a
  MAC-group instruction. -/
  macNField : SlotField
  /-- `CFG.IRQR_AUTOCLEAR` (60_exceptions.md R471). -/
  irqrAutoclear : Bool
  /-- `CFG.MAXMIN_TIE` (R380). -/
  maxminTie : Tie
  /-- `CFG.INSD_POLARITY` (48_alu64.md R414). -/
  insdPolarity : Bool
  /-- `CFG.STACK_DEPTH` (41_control_and_changed_results.md R220), at least 1. -/
  stackDepth : Nat
  /-- `CFG.PC_RESET` (70_reset_and_hazards.md R523). -/
  pcReset : Half
  /-- The bit of CCR that is C (10_state.md R48 gives no position). -/
  ccrC : BitVec 4
  /-- The bit of CCR that is V (10_state.md R48 gives no position). -/
  ccrV : BitVec 4
  /-- Which half of a 32-bit memory word a 16-bit datum uses (91_not_in_source.md N12): `true` = bits 31..16. -/
  half16High : Bool
  deriving DecidableEq, Repr

/-- What the spec asks of a configuration: a stack that holds at least one address (R9), C and V two bits (R48). -/
def Config.Ok (c : Config) : Prop := 1 ≤ c.stackDepth ∧ c.ccrC ≠ c.ccrV

/-- `CFG.RND` where it is not the spec's default: x divided by 2^k and rounded to some integer (00_scope.md R16),
uninterpreted. -/
opaque Config.rndOther : Int → Nat → Int
/-- `CFG.fadd32` (42_fp.md R230): uninterpreted. -/
opaque Config.fadd32 : Word → Word → Word
/-- `CFG.fsub32` (R230), first minus second: uninterpreted. -/
opaque Config.fsub32 : Word → Word → Word
/-- `CFG.fmul32` (R230): uninterpreted. -/
opaque Config.fmul32 : Word → Word → Word
/-- `CFG.pdn64` (48_alu64.md R426): uninterpreted. -/
opaque Config.pdn64 : Dbl → Half
/-- `CFG.pdnxl` (R427): uninterpreted. -/
opaque Config.pdnxl : Dbl → Half
/-- `CFG.pdnde` for a nonzero operand (R428); `pdnde(0) = 0` is stated where it is used. -/
opaque Config.pdndeNonzero : Dbl → Word

/-- A free choice among several values the spec allows (`ANY` of a set): the choice number, by draw. -/
opaque Config.freeChoice : Nat → Nat
/-- A free 32-bit value (`ANY(32)`), by draw. -/
opaque Config.freeWord : Nat → Word

end Sys2Proof
end

