-- ==== Sys2Proof/Machine/Setup.lean ====
section
/-! DEFINITION. Values of the open parameters: those the machine has at reset (DESIGN CHOICE: the source gives none,
log entry 1) and the vector configuration `VC` of 95_test_vectors.md, used by tests. No statement rests on either. -/

namespace Sys2Proof.Machine

/-- The actions the spec's vectors use for the codes of field `mode` (95_test_vectors.md VC). -/
def vectorAguMode : List Action :=
  [.noUpdate, .postInc, .postDec, .postAddOffset, .unknown, .unknown, .unknown, .unknown]

/-- The actions the spec's vectors use for the codes of field `AT` (VC). -/
def vectorAtMode : List Action := [.noUpdate, .postInc, .postDec, .postAddOffset]

/-- The configuration the machine has at reset. DESIGN CHOICE: every value is one the spec leaves open. -/
def resetConfig : Config where
  deDir := false
  opRts := 0
  ccAlways := 0
  aguMode := vectorAguMode
  atMode := vectorAtMode
  rounding := .nearestEven
  macNField := .d
  irqrAutoclear := false
  maxminTie := .lowest
  insdPolarity := false
  stackDepth := 2
  pcReset := 0
  ccrC := 0
  ccrV := 1
  half16High := false

/-- The vector configuration `VC` (95_test_vectors.md): `CFG.DE_DIR` = 1, `CFG.OP_RTS` = 0x30, `CFG.CC_ALWAYS` = 0xF. -/
def vectorConfig : Config := { resetConfig with deDir := true, opRts := 0x30, ccAlways := 0xF }

end Sys2Proof.Machine
end

