-- ==== Sys2Proof/Syntax.lean ====
section
/-! DEFINITION. The instructions: `Instr` has one constructor for every row of spec/opcode_table.json (the parts a
64-bit instruction is made of, and RTI); `Bundle` is a whole instruction word pair of formats 9a, 9b, 9d, or RTI
(30_encoding.md R158..R169). A row whose mnemonic occurs in both slots has a constructor for each slot (suffix `B`
= the OP2 slot). Operands are the fields the operation names (R162), in the order of the table's syntax. -/

namespace Sys2Proof

/-- A register reached through the RC field of a move (30_encoding.md R150..R154). -/
inductive CReg where
  | a (n : BitVec 3)
  | i (n : BitVec 3)
  | m (n : BitVec 3)
  | ptrT
  | it
  | mt
  | dt
  | ivar
  | x (k : BitVec 5)
  | dcsr
  | sr
  | idr
  | efr
  | irqr
  | imaskr
  | tmr
  | arbr
  | pc
  | ss
  | la
  | csl
  | lc
  | csh
  | sp
  | sar (n : BitVec 3)
  | cntr
  | pdnr
  | ccr
  | sfr
  | ac (n : BitVec 4)
  deriving DecidableEq, Repr

/-- One part of an instruction: a row of spec/opcode_table.json. -/
inductive Instr where
  /-- NOP: OP1 slot, code 0000000; 41_control_and_changed_results.md R210. -/
  | nop
  /-- NOP: OP1 slot, code 1000000; 41_control_and_changed_results.md R210. -/
  | nopHi
  /-- CLRD D.D: OP1 slot, code 0000001; 48_alu64.md R417. -/
  | clrd (rd : Reg)
  /-- ASX2 T.D,S.D,D.Q: OP1 slot, code 0100001; 46_alu_packed.md R357. -/
  | asx2 (rt : Reg) (rs : Reg) (rd : Reg)
  /-- ADDD T.D,S.D,D.D: OP1 slot, code 0000010; 48_alu64.md R418. -/
  | addd (rt : Reg) (rs : Reg) (rd : Reg)
  /-- ASXS T.L,S.L,D.D: OP1 slot, code 0100010; 46_alu_packed.md R359. -/
  | asxs (rt : Reg) (rs : Reg) (rd : Reg)
  /-- SUBD T.D,S.D,D.D: OP1 slot, code 0000011; 48_alu64.md R419. -/
  | subd (rt : Reg) (rs : Reg) (rd : Reg)
  /-- ASXS2 T.D,S.D,D.Q: OP1 slot, code 0100011; 46_alu_packed.md R358. -/
  | asxs2 (rt : Reg) (rs : Reg) (rd : Reg)
  /-- ADCD T.D,S.D,D.D: OP1 slot, code 0000100; 48_alu64.md R420. -/
  | adcd (rt : Reg) (rs : Reg) (rd : Reg)
  /-- A4 T.D,S.D,D.D: OP1 slot, code 0100100; 46_alu_packed.md R344. -/
  | a4 (rt : Reg) (rs : Reg) (rd : Reg)
  /-- SBCD T.D,S.D,D.D: OP1 slot, code 0000101; 48_alu64.md R421. -/
  | sbcd (rt : Reg) (rs : Reg) (rd : Reg)
  /-- A8 T.Q,S.Q,D.Q: OP1 slot, code 0100101; 46_alu_packed.md R341. -/
  | a8 (rt : Reg) (rs : Reg) (rd : Reg)
  /-- ADDLD T.L,S.D,D.D: OP1 slot, code 0000110; 48_alu64.md R422. -/
  | addld (rt : Reg) (rs : Reg) (rd : Reg)
  /-- S4 T.D,S.D,D.D: OP1 slot, code 0100110; 46_alu_packed.md R345. -/
  | s4 (rt : Reg) (rs : Reg) (rd : Reg)
  /-- TRS16 S.Q,D.D: OP1 slot, code 0000111; 49_trs.md R453. -/
  | trs16 (rs : Reg) (rd : Reg)
  /-- S8 T.Q,S.Q,D.Q: OP1 slot, code 0100111; 46_alu_packed.md R342. -/
  | s8 (rt : Reg) (rs : Reg) (rd : Reg)
  /-- FASX T.D,S.D,D.Q: OP1 slot, code 0001000; 42_fp.md R233. -/
  | fasx (rt : Reg) (rs : Reg) (rd : Reg)
  /-- RA4 T.D,S.D,D.D: OP1 slot, code 0101000; 46_alu_packed.md R361. -/
  | ra4 (rt : Reg) (rs : Reg) (rd : Reg)
  /-- FASXS T.D,S.D,D.Q: OP1 slot, code 0001001; 42_fp.md R234. -/
  | fasxs (rt : Reg) (rs : Reg) (rd : Reg)
  /-- RA8 T.Q,S.Q,D.Q: OP1 slot, code 0101001; 46_alu_packed.md R360. -/
  | ra8 (rt : Reg) (rs : Reg) (rd : Reg)
  /-- FAX T.D,S.D,D.D: OP1 slot, code 0001010; 42_fp.md R236. -/
  | fax (rt : Reg) (rs : Reg) (rd : Reg)
  /-- SGA4 T.D,S.D,D.D: OP1 slot, code 0101010; 46_alu_packed.md R363. -/
  | sga4 (rt : Reg) (rs : Reg) (rd : Reg)
  /-- FSX T.D,S.D,D.D: OP1 slot, code 0001011; 42_fp.md R237. -/
  | fsx (rt : Reg) (rs : Reg) (rd : Reg)
  /-- SGA8 T.Q,S.Q,D.Q: OP1 slot, code 0101011; 46_alu_packed.md R362. -/
  | sga8 (rt : Reg) (rs : Reg) (rd : Reg)
  /-- TRS17 S.Q,D.D: OP1 slot, code 0001100; 49_trs.md R454. -/
  | trs17 (rs : Reg) (rd : Reg)
  /-- A8s T.Q,S.Q,D.Q: OP1 slot, code 0101100; 46_alu_packed.md R364. -/
  | a8s (rt : Reg) (rs : Reg) (rd : Reg)
  /-- TRS18 T,S,D.L: OP1 slot, code 0001101; 49_trs.md R455. -/
  | trs18 (rt : Reg) (rs : Reg) (rd : Reg)
  /-- MS2 T.L,S.L,D.L: OP1 slot, code 0101101; 46_alu_packed.md R347. -/
  | ms2 (rt : Reg) (rs : Reg) (rd : Reg)
  /-- TRS19 S.Q,D.D: OP1 slot, code 0001110; 49_trs.md R456. -/
  | trs19 (rs : Reg) (rd : Reg)
  /-- MS4 T.D,S.D,D.D: OP1 slot, code 0101110; 46_alu_packed.md R346. -/
  | ms4 (rt : Reg) (rs : Reg) (rd : Reg)
  /-- FSA T.D,S.D,D.D: OP1 slot, code 0001111; 42_fp.md R235. -/
  | fsa (rt : Reg) (rs : Reg) (rd : Reg)
  /-- MS8 T.Q,S.Q,D.Q: OP1 slot, code 0101111; 46_alu_packed.md R343. -/
  | ms8 (rt : Reg) (rs : Reg) (rd : Reg)
  /-- TRS0 S.Q,D.Q: OP1 slot, code 0010000; 49_trs.md R436. -/
  | trs0 (rs : Reg) (rd : Reg)
  /-- S8s T.Q,S.Q,D.Q: OP1 slot, code 0110000; 46_alu_packed.md R365. -/
  | s8s (rt : Reg) (rs : Reg) (rd : Reg)
  /-- TRS1 T.D,S.D,D.D: OP1 slot, code 0010001; 49_trs.md R437. -/
  | trs1 (rt : Reg) (rs : Reg) (rd : Reg)
  /-- NEGDE S.D,D.D: OP1 slot, code 0110001; 48_alu64.md R432. -/
  | negde (rs : Reg) (rd : Reg)
  /-- TRS2 T.D,S.D,D.D: OP1 slot, code 0010010; 49_trs.md R438. -/
  | trs2 (rt : Reg) (rs : Reg) (rd : Reg)
  /-- ALLFT41 S.Q,D: OP1 slot, code 0110010; 46_alu_packed.md R355. -/
  | allft41 (rs : Reg) (rd : Reg)
  /-- TRS3 T.D,S.D,D.D: OP1 slot, code 0010011; 49_trs.md R439. -/
  | trs3 (rt : Reg) (rs : Reg) (rd : Reg)
  /-- ALLFT22 S.Q,D.L: OP1 slot, code 0110011; 46_alu_packed.md R356. -/
  | allft22 (rs : Reg) (rd : Reg)
  /-- TRS4 S.D,D.Q: OP1 slot, code 0010100; 49_trs.md R441. -/
  | trs4 (rs : Reg) (rd : Reg)
  /-- ALL4 T.Q,S.Q,D.Q: OP1 slot, code 0110100; 46_alu_packed.md R348. -/
  | all4 (rt : Reg) (rs : Reg) (rd : Reg)
  /-- TRS5 S.D,D.Q: OP1 slot, code 0010101; 49_trs.md R442. -/
  | trs5 (rs : Reg) (rd : Reg)
  /-- ALL2 T.D,S.D,D.D: OP1 slot, code 0110101; 46_alu_packed.md R349. -/
  | all2 (rt : Reg) (rs : Reg) (rd : Reg)
  /-- TRS6 S.D,D.Q: OP1 slot, code 0010110; 49_trs.md R443. -/
  | trs6 (rs : Reg) (rd : Reg)
  /-- AL4 T.D,S.Q,D.Q: OP1 slot, code 0110110; 46_alu_packed.md R350. -/
  | al4 (rt : Reg) (rs : Reg) (rd : Reg)
  /-- TRS7 S.Q,D.D: OP1 slot, code 0010111; 49_trs.md R444. -/
  | trs7 (rs : Reg) (rd : Reg)
  /-- AL2 T.L,S.D,D.D: OP1 slot, code 0110111; 46_alu_packed.md R351. -/
  | al2 (rt : Reg) (rs : Reg) (rd : Reg)
  /-- TRS8 S.Q,D.D: OP1 slot, code 0011000; 49_trs.md R445. -/
  | trs8 (rs : Reg) (rd : Reg)
  /-- NORVD S.D,D.D: OP1 slot, code 0111000; 48_alu64.md R430. -/
  | norvd (rs : Reg) (rd : Reg)
  /-- TRS9 S.D,D.D: OP1 slot, code 0011001; 49_trs.md R446. -/
  | trs9 (rs : Reg) (rd : Reg)
  /-- A81 S.Q,D: OP1 slot, code 0111001; 46_alu_packed.md R352. -/
  | a81 (rs : Reg) (rd : Reg)
  /-- TRS10 S.D,D.D: OP1 slot, code 0011010; 49_trs.md R447. -/
  | trs10 (rs : Reg) (rd : Reg)
  /-- A42 S.Q,D.L: OP1 slot, code 0111010; 46_alu_packed.md R353. -/
  | a42 (rs : Reg) (rd : Reg)
  /-- TRS11 T.D,S.D,D.Q: OP1 slot, code 0011011; 49_trs.md R448. -/
  | trs11 (rt : Reg) (rs : Reg) (rd : Reg)
  /-- A24 S.Q,D.D: OP1 slot, code 0111011; 46_alu_packed.md R354. -/
  | a24 (rs : Reg) (rd : Reg)
  /-- TRS12 T.D,S.D,D.Q: OP1 slot, code 0011100; 49_trs.md R449. -/
  | trs12 (rt : Reg) (rs : Reg) (rd : Reg)
  /-- BF4 T.D,S.D,D.Q: OP1 slot, code 0111100; 46_alu_packed.md R366. -/
  | bf4 (rt : Reg) (rs : Reg) (rd : Reg)
  /-- TRS13 T.D,S.D,D.Q: OP1 slot, code 0011101; 49_trs.md R450. -/
  | trs13 (rt : Reg) (rs : Reg) (rd : Reg)
  /-- BIF4 T.D,S.D,D.Q: OP1 slot, code 0111101; 46_alu_packed.md R367. -/
  | bif4 (rt : Reg) (rs : Reg) (rd : Reg)
  /-- TRS14 T.D,S.D,D.L: OP1 slot, code 0011110; 49_trs.md R451. -/
  | trs14 (rt : Reg) (rs : Reg) (rd : Reg)
  /-- AXJ4 T.Q,S.Q,D.Q: OP1 slot, code 0111110; 46_alu_packed.md R368. -/
  | axj4 (rt : Reg) (rs : Reg) (rd : Reg)
  /-- TRS15 S.Q,D.D: OP1 slot, code 0011111; 49_trs.md R452. -/
  | trs15 (rs : Reg) (rd : Reg)
  /-- SXJ4 T.Q,S.Q,D.Q: OP1 slot, code 0111111; 46_alu_packed.md R369. -/
  | sxj4 (rt : Reg) (rs : Reg) (rd : Reg)
  /-- CMPN4 T.D,S.D,D.D: OP1 slot, code 1100000; 47_compare_minmax.md R381. -/
  | cmpn4 (rt : Reg) (rs : Reg) (rd : Reg)
  /-- CMPN8 T.Q,S.Q,D.Q: OP1 slot, code 1100001; 47_compare_minmax.md R383. -/
  | cmpn8 (rt : Reg) (rs : Reg) (rd : Reg)
  /-- ANDD T.D,S.D,D.D: OP1 slot, code 1010001; 48_alu64.md R406. -/
  | andd (rt : Reg) (rs : Reg) (rd : Reg)
  /-- CMPZ4 T.D,S.D,D.D: OP1 slot, code 1100010; 47_compare_minmax.md R382. -/
  | cmpz4 (rt : Reg) (rs : Reg) (rd : Reg)
  /-- ANDCD T.D,S.D,D.D: OP1 slot, code 1010010; 48_alu64.md R407. -/
  | andcd (rt : Reg) (rs : Reg) (rd : Reg)
  /-- CMPZ8 T.Q,S.Q,D.Q: OP1 slot, code 1100011; 47_compare_minmax.md R384. -/
  | cmpz8 (rt : Reg) (rs : Reg) (rd : Reg)
  /-- ANDID T.D,S.D,D.D: OP1 slot, code 1010011; 48_alu64.md R408. -/
  | andid (rt : Reg) (rs : Reg) (rd : Reg)
  /-- CMPNL2 T.D,S.D,D.D: OP1 slot, code 1100100; 47_compare_minmax.md R385. -/
  | cmpnl2 (rt : Reg) (rs : Reg) (rd : Reg)
  /-- INSD T.D,S.D,D.D: OP1 slot, code 1010100; 48_alu64.md R414. -/
  | insd (rt : Reg) (rs : Reg) (rd : Reg)
  /-- CMPNL4 T.Q,S.Q,D.Q: OP1 slot, code 1100101; 47_compare_minmax.md R387. -/
  | cmpnl4 (rt : Reg) (rs : Reg) (rd : Reg)
  /-- ORD T.D,S.D,D.D: OP1 slot, code 1010101; 48_alu64.md R409. -/
  | ord (rt : Reg) (rs : Reg) (rd : Reg)
  /-- CMPZL2 T.D,S.D,D.D: OP1 slot, code 1100110; 47_compare_minmax.md R386. -/
  | cmpzl2 (rt : Reg) (rs : Reg) (rd : Reg)
  /-- ORCD T.D,S.D,D.D: OP1 slot, code 1010110; 48_alu64.md R410. -/
  | orcd (rt : Reg) (rs : Reg) (rd : Reg)
  /-- CMPZL4 T.Q,S.Q,D.Q: OP1 slot, code 1100111; 47_compare_minmax.md R388. -/
  | cmpzl4 (rt : Reg) (rs : Reg) (rd : Reg)
  /-- ORID T.D,S.D,D.D: OP1 slot, code 1010111; 48_alu64.md R411. -/
  | orid (rt : Reg) (rs : Reg) (rd : Reg)
  /-- MAX4 T,S.D,D.D: OP1 slot, code 1101000; 47_compare_minmax.md R389. -/
  | max4 (rt : Reg) (rs : Reg) (rd : Reg)
  /-- EORD T.D,S.D,D.D: OP1 slot, code 1011000; 48_alu64.md R412. -/
  | eord (rt : Reg) (rs : Reg) (rd : Reg)
  /-- MAX8 T,S.Q,D.D: OP1 slot, code 1101001; 47_compare_minmax.md R391. -/
  | max8 (rt : Reg) (rs : Reg) (rd : Reg)
  /-- NOTD S.D,D.D: OP1 slot, code 1011001; 48_alu64.md R413. -/
  | notd (rs : Reg) (rd : Reg)
  /-- MIN4 T,S.D,D.D: OP1 slot, code 1101010; 47_compare_minmax.md R393. -/
  | min4 (rt : Reg) (rs : Reg) (rd : Reg)
  /-- TRD S.D,D.D: OP1 slot, code 1011010; 48_alu64.md R425. -/
  | trd (rs : Reg) (rd : Reg)
  /-- MIN8 T,S.Q,D.D: OP1 slot, code 1101011; 47_compare_minmax.md R395. -/
  | min8 (rt : Reg) (rs : Reg) (rd : Reg)
  /-- MAXL2 T,S.D,D.D: OP1 slot, code 1101100; 47_compare_minmax.md R390. -/
  | maxl2 (rt : Reg) (rs : Reg) (rd : Reg)
  /-- PDNXL S.D,D: OP1 slot, code 1011101; 48_alu64.md R427. -/
  | pdnxl (rs : Reg) (rd : Reg)
  /-- MAXL4 T,S.Q,D.D: OP1 slot, code 1101101; 47_compare_minmax.md R392. -/
  | maxl4 (rt : Reg) (rs : Reg) (rd : Reg)
  /-- PDNDE S.D,D.L: OP1 slot, code 1011110; 48_alu64.md R428. -/
  | pdnde (rs : Reg) (rd : Reg)
  /-- MINL2 T,S.D,D.D: OP1 slot, code 1101110; 47_compare_minmax.md R394. -/
  | minl2 (rt : Reg) (rs : Reg) (rd : Reg)
  /-- PDND S.D,D: OP1 slot, code 1011111; 48_alu64.md R426. -/
  | pdnd (rs : Reg) (rd : Reg)
  /-- MINL4 T,S.Q,D.D: OP1 slot, code 1101111; 47_compare_minmax.md R396. -/
  | minl4 (rt : Reg) (rs : Reg) (rd : Reg)
  /-- NOP: OP2 slot, code 0000000; 41_control_and_changed_results.md R210. -/
  | nopB
  /-- NOP: OP2 slot, code 1100000; 41_control_and_changed_results.md R210. -/
  | nopBHi
  /-- NOP: OP2 slot, code 1000000; 41_control_and_changed_results.md R210. -/
  | nopBMid
  /-- MFX T.L,S.L,D.L: OP2 slot, code 0100001; 43_mul_fixed.md R254. -/
  | mfx (rt : Reg) (rs : Reg) (rd : Reg)
  /-- FM2 T.D,S.D,D.D: OP2 slot, code 0000010; 42_fp.md R231. -/
  | fm2 (rt : Reg) (rs : Reg) (rd : Reg)
  /-- MFXC T.L,S.L,D.L: OP2 slot, code 0100010; 43_mul_fixed.md R255. -/
  | mfxc (rt : Reg) (rs : Reg) (rd : Reg)
  /-- FMS2 T.D,S.D,D.D: OP2 slot, code 0000011; 42_fp.md R232. -/
  | fms2 (rt : Reg) (rs : Reg) (rd : Reg)
  /-- MFX2 T.D,S.D,D.D: OP2 slot, code 0100011; 43_mul_fixed.md R252. -/
  | mfx2 (rt : Reg) (rs : Reg) (rd : Reg)
  /-- MFXC2 T.D,S.D,D.D: OP2 slot, code 0100100; 43_mul_fixed.md R253. -/
  | mfxc2 (rt : Reg) (rs : Reg) (rd : Reg)
  /-- TRS16 S.Q,D.D: OP2 slot, code 0000111; 49_trs.md R453. -/
  | trs16B (rs : Reg) (rd : Reg)
  /-- MF4 T.D,S.D,D.D: OP2 slot, code 0100101; 43_mul_fixed.md R251. -/
  | mf4 (rt : Reg) (rs : Reg) (rd : Reg)
  /-- MF8 T.Q,S.Q,D.Q: OP2 slot, code 0100110; 43_mul_fixed.md R250. -/
  | mf8 (rt : Reg) (rs : Reg) (rd : Reg)
  /-- TRS17 S.Q,D.D: OP2 slot, code 0001100; 49_trs.md R454. -/
  | trs17B (rs : Reg) (rd : Reg)
  /-- ML2 T.D,S.D,D.Q: OP2 slot, code 0100111; 43_mul_fixed.md R247. -/
  | ml2 (rt : Reg) (rs : Reg) (rd : Reg)
  /-- TRS18 T,S,D.L: OP2 slot, code 0001101; 49_trs.md R455. -/
  | trs18B (rt : Reg) (rs : Reg) (rd : Reg)
  /-- UML T.L,S.L,D.D: OP2 slot, code 0101000; 43_mul_fixed.md R249. -/
  | uml (rt : Reg) (rs : Reg) (rd : Reg)
  /-- TRS19 S.Q,D.D: OP2 slot, code 0001110; 49_trs.md R456. -/
  | trs19B (rs : Reg) (rd : Reg)
  /-- UML2 T.D,S.D,D.Q: OP2 slot, code 0101001; 43_mul_fixed.md R248. -/
  | uml2 (rt : Reg) (rs : Reg) (rd : Reg)
  /-- MFA81 T.Q,S.Q,D: OP2 slot, code 0101010; 43_mul_fixed.md R256. -/
  | mfa81 (rt : Reg) (rs : Reg) (rd : Reg)
  /-- TRS0 S.Q,D.Q: OP2 slot, code 0010000; 49_trs.md R436. -/
  | trs0B (rs : Reg) (rd : Reg)
  /-- MFA41 T.D,S.D,D: OP2 slot, code 0101011; 43_mul_fixed.md R258. -/
  | mfa41 (rt : Reg) (rs : Reg) (rd : Reg)
  /-- TRS1 T.D,S.D,D.D: OP2 slot, code 0010001; 49_trs.md R437. -/
  | trs1B (rt : Reg) (rs : Reg) (rd : Reg)
  /-- MFA42 T.Q,S.Q,D.L: OP2 slot, code 0101100; 43_mul_fixed.md R257. -/
  | mfa42 (rt : Reg) (rs : Reg) (rd : Reg)
  /-- TRS2 T.D,S.D,D.D: OP2 slot, code 0010010; 49_trs.md R438. -/
  | trs2B (rt : Reg) (rs : Reg) (rd : Reg)
  /-- MFA21 T.L,S.L,D: OP2 slot, code 0101101; 43_mul_fixed.md R261. -/
  | mfa21 (rt : Reg) (rs : Reg) (rd : Reg)
  /-- TRS3 T.D,S.D,D.D: OP2 slot, code 0010011; 49_trs.md R439. -/
  | trs3B (rt : Reg) (rs : Reg) (rd : Reg)
  /-- MFA22 T.D,S.D,D.L: OP2 slot, code 0101110; 43_mul_fixed.md R260. -/
  | mfa22 (rt : Reg) (rs : Reg) (rd : Reg)
  /-- TRS4 S.D,D.Q: OP2 slot, code 0010100; 49_trs.md R441. -/
  | trs4B (rs : Reg) (rd : Reg)
  /-- MFA24 T.Q,S.Q,D.D: OP2 slot, code 0101111; 43_mul_fixed.md R259. -/
  | mfa24 (rt : Reg) (rs : Reg) (rd : Reg)
  /-- TRS5 S.D,D.Q: OP2 slot, code 0010101; 49_trs.md R442. -/
  | trs5B (rs : Reg) (rd : Reg)
  /-- M4 T.D,S.D,D.Q: OP2 slot, code 0110000; 43_mul_fixed.md R262. -/
  | m4 (rt : Reg) (rs : Reg) (rd : Reg)
  /-- TRS6 S.D,D.Q: OP2 slot, code 0010110; 49_trs.md R443. -/
  | trs6B (rs : Reg) (rd : Reg)
  /-- M2 T.L,S.L,D.D: OP2 slot, code 0110001; 43_mul_fixed.md R263. -/
  | m2 (rt : Reg) (rs : Reg) (rd : Reg)
  /-- TRS7 S.Q,D.D: OP2 slot, code 0010111; 49_trs.md R444. -/
  | trs7B (rs : Reg) (rd : Reg)
  /-- TRS8 S.Q,D.D: OP2 slot, code 0011000; 49_trs.md R445. -/
  | trs8B (rs : Reg) (rd : Reg)
  /-- TRS9 S.D,D.D: OP2 slot, code 0011001; 49_trs.md R446. -/
  | trs9B (rs : Reg) (rd : Reg)
  /-- LSLDi #5,S.D,D.D: OP2 slot, code 1100001; 45_shifter64.md R322. -/
  | lsldi (imm : BitVec 5) (rs : Reg) (rd : Reg)
  /-- TRS10 S.D,D.D: OP2 slot, code 0011010; 49_trs.md R447. -/
  | trs10B (rs : Reg) (rd : Reg)
  /-- LSLXL T.L,S.D,D.D: OP2 slot, code 1100010; 45_shifter64.md R329. -/
  | lslxl (rt : Reg) (rs : Reg) (rd : Reg)
  /-- TRS11 T.D,S.D,D.Q: OP2 slot, code 0011011; 49_trs.md R448. -/
  | trs11B (rt : Reg) (rs : Reg) (rd : Reg)
  /-- TRS12 T.D,S.D,D.Q: OP2 slot, code 0011100; 49_trs.md R449. -/
  | trs12B (rt : Reg) (rs : Reg) (rd : Reg)
  /-- ASLDi #5,S.D,D.D: OP2 slot, code 1100100; 45_shifter64.md R318. -/
  | asldi (imm : BitVec 5) (rs : Reg) (rd : Reg)
  /-- TRS13 T.D,S.D,D.Q: OP2 slot, code 0011101; 49_trs.md R450. -/
  | trs13B (rt : Reg) (rs : Reg) (rd : Reg)
  /-- ASLXL T,S.D,D.D: OP2 slot, code 1100101; 45_shifter64.md R327. -/
  | aslxl (rt : Reg) (rs : Reg) (rd : Reg)
  /-- TRS14 T.D,S.D,D.L: OP2 slot, code 0011110; 49_trs.md R451. -/
  | trs14B (rt : Reg) (rs : Reg) (rd : Reg)
  /-- TRD S.D,D.D: OP2 slot, code 1100110; 48_alu64.md R425. -/
  | trdB (rs : Reg) (rd : Reg)
  /-- TRS15 S.Q,D.D: OP2 slot, code 0011111; 49_trs.md R452. -/
  | trs15B (rs : Reg) (rd : Reg)
  /-- LSLD T,S.D,D.D: OP2 slot, code 1101000; 45_shifter64.md R323. -/
  | lsld (rt : Reg) (rs : Reg) (rd : Reg)
  /-- MACX T.L,S.L,ACn.D: OP2 slot, code 1000001; 44_mac.md R293. -/
  | macx (rt : Reg) (rs : Reg) (n : BitVec 5)
  /-- ROLD S.D,D.D: OP2 slot, code 1101001; 45_shifter64.md R325. -/
  | rold (rs : Reg) (rd : Reg)
  /-- MACX2 T.D,S.D,ACn.D: OP2 slot, code 1000010; 44_mac.md R291. -/
  | macx2 (rt : Reg) (rs : Reg) (n : BitVec 5)
  /-- MACXC T.L,S.L,ACn.D: OP2 slot, code 1000011; 44_mac.md R294. -/
  | macxc (rt : Reg) (rs : Reg) (n : BitVec 5)
  /-- ASLD T,S.D,D.D: OP2 slot, code 1101100; 45_shifter64.md R319. -/
  | asld (rt : Reg) (rs : Reg) (rd : Reg)
  /-- MACXC2 T.D,S.D,ACn.D: OP2 slot, code 1000100; 44_mac.md R292. -/
  | macxc2 (rt : Reg) (rs : Reg) (n : BitVec 5)
  /-- ASRDE T,S.D,D.D: OP2 slot, code 1101101; 45_shifter64.md R332. -/
  | asrde (rt : Reg) (rs : Reg) (rd : Reg)
  /-- MAC41 T.D,S.D,ACn.D: OP2 slot, code 1000101; 44_mac.md R283. -/
  | mac41 (rt : Reg) (rs : Reg) (n : BitVec 5)
  /-- MAC81 T.Q,S.Q,ACn.D: OP2 slot, code 1000110; 44_mac.md R281. -/
  | mac81 (rt : Reg) (rs : Reg) (n : BitVec 5)
  /-- BTSTDi #5,S.D: OP2 slot, code 1110000; 48_alu64.md R415. -/
  | btstdi (imm : BitVec 5) (rs : Reg)
  /-- MACXB4 T.Q,S.Q,ACn.D: OP2 slot, code 1000111; 44_mac.md R295. -/
  | macxb4 (rt : Reg) (rs : Reg) (n : BitVec 5)
  /-- LSRDi #5,S.D,D.D: OP2 slot, code 1110001; 45_shifter64.md R320. -/
  | lsrdi (imm : BitVec 5) (rs : Reg) (rd : Reg)
  /-- MACL2 T.D,S.D,ACn.D: OP2 slot, code 1001000; 44_mac.md R296. -/
  | macl2 (rt : Reg) (rs : Reg) (n : BitVec 5)
  /-- LSRXL T.L,S.D,D.D: OP2 slot, code 1110010; 45_shifter64.md R328. -/
  | lsrxl (rt : Reg) (rs : Reg) (rd : Reg)
  /-- CLRAC T: OP2 slot, code 1001001; 44_mac.md R276. -/
  | clrac (rt : Reg)
  /-- LDAC T,D.L: OP2 slot, code 1001010; 44_mac.md R277. -/
  | ldac (rt : Reg) (rd : Reg)
  /-- ASRDi #5,S.D,D.D: OP2 slot, code 1110100; 45_shifter64.md R316. -/
  | asrdi (imm : BitVec 5) (rs : Reg) (rd : Reg)
  /-- LDACD T,D.D: OP2 slot, code 1001011; 44_mac.md R278. -/
  | ldacd (rt : Reg) (rd : Reg)
  /-- ASRXL T,S.D,D.D: OP2 slot, code 1110101; 45_shifter64.md R326. -/
  | asrxl (rt : Reg) (rs : Reg) (rd : Reg)
  /-- STAC T,S.L: OP2 slot, code 1001100; 44_mac.md R279. -/
  | stac (rt : Reg) (rs : Reg)
  /-- STACD T,S.D: OP2 slot, code 1001101; 44_mac.md R280. -/
  | stacd (rt : Reg) (rs : Reg)
  /-- SMBD S.D,D: OP2 slot, code 1110111; 45_shifter64.md R330. -/
  | smbd (rs : Reg) (rd : Reg)
  /-- LSRD T,S.D,D.D: OP2 slot, code 1111000; 45_shifter64.md R321. -/
  | lsrd (rt : Reg) (rs : Reg) (rd : Reg)
  /-- MAC42 T.Q,S.Q,ACn.D: OP2 slot, code 1010000; 44_mac.md R282. -/
  | mac42 (rt : Reg) (rs : Reg) (n : BitVec 5)
  /-- RORD S.D,D.D: OP2 slot, code 1111001; 45_shifter64.md R324. -/
  | rord (rs : Reg) (rd : Reg)
  /-- MAC24 T.Q,S.Q,ACn.D: OP2 slot, code 1010001; 44_mac.md R284. -/
  | mac24 (rt : Reg) (rs : Reg) (n : BitVec 5)
  /-- BTSTD T,S.D: OP2 slot, code 1111010; 48_alu64.md R416. -/
  | btstd (rt : Reg) (rs : Reg)
  /-- MAC22 T.D,S.D,ACn.D: OP2 slot, code 1010010; 44_mac.md R285. -/
  | mac22 (rt : Reg) (rs : Reg) (n : BitVec 5)
  /-- MAC21 T.L,S.L,ACn.D: OP2 slot, code 1010011; 44_mac.md R286. -/
  | mac21 (rt : Reg) (rs : Reg) (n : BitVec 5)
  /-- ASRD T,S.D,D.D: OP2 slot, code 1111100; 45_shifter64.md R317. -/
  | asrd (rt : Reg) (rs : Reg) (rd : Reg)
  /-- MAC18 T.Q,S.Q: OP2 slot, code 1010100; 44_mac.md R287. -/
  | mac18 (rt : Reg) (rs : Reg)
  /-- MAC14 T.D,S.D,ACn.D: OP2 slot, code 1010101; 44_mac.md R288. -/
  | mac14 (rt : Reg) (rs : Reg) (n : BitVec 5)
  /-- MAC12 T.L,S.L,ACn.D: OP2 slot, code 1010110; 44_mac.md R289. -/
  | mac12 (rt : Reg) (rs : Reg) (n : BitVec 5)
  /-- MAC11 T,S,ACn.D: OP2 slot, code 1010111; 44_mac.md R290. -/
  | mac11 (rt : Reg) (rs : Reg) (n : BitVec 5)
  /-- ACSG8 T,S.Q: OP2 slot, code 1011000; 44_mac.md R297. -/
  | acsg8 (rt : Reg) (rs : Reg)
  /-- ACSG4 T,S.D,ACn.D: OP2 slot, code 1011001; 44_mac.md R298. -/
  | acsg4 (rt : Reg) (rs : Reg) (n : BitVec 5)
  /-- ACSG2 T,S.L,ACn.D: OP2 slot, code 1011010; 44_mac.md R299. -/
  | acsg2 (rt : Reg) (rs : Reg) (n : BitVec 5)
  /-- ACSG1 T,S,ACn.D: OP2 slot, code 1011011; 44_mac.md R300. -/
  | acsg1 (rt : Reg) (rs : Reg) (n : BitVec 5)
  /-- MOVE9a.X: move 1 of format 9a: XYRAM through A[a] <-> R[2*r]; R181. -/
  | move9aX (r : BitVec 4) (u : Bool) (mode : BitVec 3) (a : BitVec 3) (de : Bool)
  /-- MOVE9a.Y: move 2 of format 9a: R[0] <- XYRAM through AT; R182. -/
  | move9aY (aT : BitVec 2) (u : Bool)
  /-- MOVE9b.R: move 1 of format 9b: R[rd] <- R[rs]; R189. -/
  | move9bR (rs : Reg) (rd : Reg) (l : Bool)
  /-- MOVE9b.Y: move 2 of format 9b: R[0] <- XYRAM through AT; R190. -/
  | move9bY (aT : BitVec 2) (u : Bool)
  /-- MOVE9d.RC: the move of format 9d: control register <-> R[rr]; R191. -/
  | move9dRC (rr : Reg) (rc : CReg) (l : Bool) (de : Bool)
  /-- RTI: RTI, return from interrupt (format 3mb); R211. -/
  | rti (cc : BitVec 4)
  deriving DecidableEq, Repr

/-- A whole instruction as the program memory holds it (30_encoding.md R158, R159, R160, R169). -/
inductive Bundle where
  /-- Format 9a: two compute operations, an X memory move and a Y memory move (R158). -/
  | f9a (op1 op2 : Instr) (r : BitVec 4) (u : Bool) (aT : BitVec 2) (mode : BitVec 3) (a : BitVec 3) (de : Bool)
  /-- Format 9b: two compute operations, a register move and a Y memory move (R159). -/
  | f9b (op1 op2 : Instr) (rs : Reg) (aT : BitVec 2) (rd : Reg) (l u : Bool)
  /-- Format 9d: two compute operations and a control-register move (R160). -/
  | f9d (op1 op2 : Instr) (rr : Reg) (rc : CReg) (l de : Bool)
  /-- RTI, one word (R169). -/
  | rti (cc : BitVec 4)
  deriving DecidableEq, Repr

/-- The parts of an instruction, moves first (40_moves.md R186: every 9a and 9b instruction performs both moves). -/
def Bundle.parts : Bundle → List Instr
  | .f9a op1 op2 r u aT mode a de => [.move9aX r u mode a de, .move9aY aT u, op1, op2]
  | .f9b op1 op2 rs aT rd l u => [.move9bR rs rd l, .move9bY aT u, op1, op2]
  | .f9d op1 op2 rr rc l de => [.move9dRC rr rc l de, op1, op2]
  | .rti cc => [.rti cc]

/-- A width in which a register-file register is used (00_scope.md R11). -/
inductive Width where
  | w16
  | w32
  | w64
  | w128
  deriving DecidableEq, Repr

/-- A statement of the base instruction set, in the forms to which this spec gives a meaning at the level of an
assembler statement although their encodings are not in the source (40_moves.md R197, R198, R203;
41_control_and_changed_results.md R210, R213..R219). -/
inductive Stmt where
  /-- `MOVE R[src],R[dst]`, format 2t with sr = 1 (R197). -/
  | moveRf (w : Width) (src dst : Reg)
  /-- `MOVE` between a control register and R[rr], formats 2t (sr = 0) and 8d (R197, R198). -/
  | moveRc (rc : CReg) (w : Width) (toRc : Bool) (rr : Reg)
  /-- `MOVE #16, SR`, format 7 (R203). -/
  | moveImmSr (v : Half)
  /-- `MOVE (AT)+DT,R[rd]`, a 16-bit load (R203). -/
  | loadT (rd : Reg)
  /-- `J An` (R214). -/
  | jumpAn (n : BitVec 3)
  /-- `J #A`, `B #A` (R214, R542). -/
  | jumpTo (target : Half)
  /-- `DO R[rn],label`: only its hazard is described (R215, R531). -/
  | doLoop (rn : Reg)
  /-- `STOP` (R219). -/
  | stop
  /-- `NOP` as a whole instruction (R210). -/
  | nop
  /-- Any other instruction of the base set that the source names (R213, R216, R217), by mnemonic. -/
  | other (mnemonic : String)
  deriving DecidableEq, Repr

/-- What an address of PRAM holds, as the machine executes it: an encoded instruction of formats 9a, 9b, 9d, 3mb, or
a base-set statement with its length in words (`wide` = two words). -/
inductive Insn where
  | bundle (b : Bundle)
  | base (st : Stmt) (wide : Bool)
  deriving DecidableEq, Repr

end Sys2Proof
end

