-- ==== Sys2Proof/Machine/Fields.lean ====
section
/-! DEFINITION. What the fields of an instruction may hold: even registers for a `.Q` operand, the accumulator
numbers an instruction allows, the width a control-register move has (10_state.md R26, R29; 44_mac.md R275;
40_moves.md R191..R198). Used by WellFormed.lean and by the meanings. -/

namespace Sys2Proof.Machine

/-- A `.Q` operand needs an even register number (10_state.md R26). -/
def quadOk (n : Reg) : Bool := !n.getLsbD 0

/-- The accumulator numbers 0..7 of a one-accumulator instruction (44_mac.md R281). -/
def accAny : List Nat := [0, 1, 2, 3, 4, 5, 6, 7]
/-- The numbers of an instruction that uses `ACn` and `AC(n+1)` (R282). -/
def accPairs : List Nat := [0, 2, 4, 6]
/-- The numbers of an instruction that uses `ACn` .. `AC(n+3)` (R284). -/
def accQuads : List Nat := [0, 4]

/-- Whether a field of a MAC-group instruction holds an allowed accumulator number (R275 (b)). -/
def accOk (allowed : List Nat) (n : BitVec 5) : Bool := allowed.contains n.toNat

/-- The field of the OP2 slot that `CFG.MAC_N_FIELD` selects (00_scope.md R9; 92_eei_decisions.md D9), of its T, S and D
fields. -/
def accField (sel : SlotField) (t s d : BitVec 5) : BitVec 5 :=
  match sel with
  | .t => t
  | .s => s
  | .d => d

/-- The own width of a control register that L does not choose (30_encoding.md R151..R153, 10_state.md R67);
`none` for A0..A7, AT and the accumulators. -/
def ownWidth : CReg → Option Width
  | .a _ => none
  | .ptrT => none
  | .ac _ => none
  | .x _ => some .w64
  | .efr => some .w32
  | .irqr => some .w32
  | .imaskr => some .w32
  | .tmr => some .w32
  | .sfr => some .w32
  | .i _ => some .w16
  | .m _ => some .w16
  | .it => some .w16
  | .mt => some .w16
  | .dt => some .w16
  | .ivar => some .w16
  | .dcsr => some .w16
  | .sr => some .w16
  | .idr => some .w16
  | .arbr => some .w16
  | .pc => some .w16
  | .ss => some .w16
  | .la => some .w16
  | .csl => some .w16
  | .lc => some .w16
  | .csh => some .w16
  | .sp => some .w16
  | .sar _ => some .w16
  | .cntr => some .w16
  | .pdnr => some .w16
  | .ccr => some .w16

/-- The width of a 9d move (30_encoding.md R156 cases 3 and 6; 40_moves.md R191): the register's own with L = 0, chosen
by L for An, AT and ACn; `none` where L = 1 selects nothing. -/
def width9d (rc : CReg) (l : Bool) : Option Width :=
  match rc with
  | .a _ => some (if l then .w32 else .w16)
  | .ptrT => some (if l then .w32 else .w16)
  | .ac _ => some (if l then .w128 else .w64)
  | _ => if l then none else ownWidth rc

/-- Whether a width is one a base-format move may have for this register (R197, R198): its own, 16 or 32 for An and AT,
32 or 64 for an accumulator, and 128 in the one-word format (2t), which the two-word one (8d, `wide`) cannot code. -/
def widthBase (wide : Bool) (rc : CReg) (w : Width) : Bool :=
  match rc with
  | .a _ => w == .w16 || w == .w32
  | .ptrT => w == .w16 || w == .w32
  | .ac _ => w == .w32 || w == .w64 || (w == .w128 && !wide)
  | _ => ownWidth rc == some w

/-- Whether accumulator n has a view of that width (10_state.md R29). -/
def accViewOk (n : BitVec 4) : Width → Bool
  | .w16 => false
  | .w32 => true
  | .w64 => n.extractLsb' 0 1 == 0
  | .w128 => n.extractLsb' 0 2 == 0

/-- The register-file number used in a width: `.Q` needs an even one (R26). -/
def regOk (w : Width) (n : Reg) : Bool :=
  match w with
  | .w128 => quadOk n
  | _ => true

/-- The registers whose moves the base instruction set defines and this spec does not (40_moves.md R194). -/
def stackReg : CReg → Bool
  | .pc => true
  | .ss => true
  | .la => true
  | .csl => true
  | .lc => true
  | .csh => true
  | .sp => true
  | _ => false

end Sys2Proof.Machine
end

