-- ==== Sys2Proof/WellFormed.lean ====
section
/-! DEFINITION. Which instruction terms the encoding and the spec admit: `Instr.check` and `Bundle.check` name the
first rule a term breaks, `none` for a well-formed one. The meanings make the same checks themselves. -/

namespace Sys2Proof

/-- Why a term is no instruction of the spec. -/
inductive IllFormed where
  /-- A `.Q` operand or 128-bit move with an odd register number (10_state.md R26). -/
  | oddQuad
  /-- An accumulator number outside the instruction's list (44_mac.md R275). -/
  | accumulator
  /-- L = 1 where it selects nothing (40_moves.md R191). -/
  | widthBit
  /-- An accumulator number without a view of the move's width (10_state.md R29). -/
  | accumulatorView
  /-- A move to or from PC, SS, LA, CSL, LC, CSH, SP (40_moves.md R194). -/
  | stackRegister
  /-- A part in a slot it does not belong to (30_encoding.md R164, R165). -/
  | slot
  deriving DecidableEq, Repr

/-- The place of a part in an instruction: a compute slot, a move, or the one-word control format. -/
inductive Place where
  | op1
  | op2
  | move
  | control
  deriving DecidableEq, Repr

/-- The place of each part (column "slot" of spec/opcode_table.json). -/
def Instr.place : Instr → Place
  | .nop => .op1
  | .nopHi => .op1
  | .clrd _ => .op1
  | .asx2 _ _ _ => .op1
  | .addd _ _ _ => .op1
  | .asxs _ _ _ => .op1
  | .subd _ _ _ => .op1
  | .asxs2 _ _ _ => .op1
  | .adcd _ _ _ => .op1
  | .a4 _ _ _ => .op1
  | .sbcd _ _ _ => .op1
  | .a8 _ _ _ => .op1
  | .addld _ _ _ => .op1
  | .s4 _ _ _ => .op1
  | .trs16 _ _ => .op1
  | .s8 _ _ _ => .op1
  | .fasx _ _ _ => .op1
  | .ra4 _ _ _ => .op1
  | .fasxs _ _ _ => .op1
  | .ra8 _ _ _ => .op1
  | .fax _ _ _ => .op1
  | .sga4 _ _ _ => .op1
  | .fsx _ _ _ => .op1
  | .sga8 _ _ _ => .op1
  | .trs17 _ _ => .op1
  | .a8s _ _ _ => .op1
  | .trs18 _ _ _ => .op1
  | .ms2 _ _ _ => .op1
  | .trs19 _ _ => .op1
  | .ms4 _ _ _ => .op1
  | .fsa _ _ _ => .op1
  | .ms8 _ _ _ => .op1
  | .trs0 _ _ => .op1
  | .s8s _ _ _ => .op1
  | .trs1 _ _ _ => .op1
  | .negde _ _ => .op1
  | .trs2 _ _ _ => .op1
  | .allft41 _ _ => .op1
  | .trs3 _ _ _ => .op1
  | .allft22 _ _ => .op1
  | .trs4 _ _ => .op1
  | .all4 _ _ _ => .op1
  | .trs5 _ _ => .op1
  | .all2 _ _ _ => .op1
  | .trs6 _ _ => .op1
  | .al4 _ _ _ => .op1
  | .trs7 _ _ => .op1
  | .al2 _ _ _ => .op1
  | .trs8 _ _ => .op1
  | .norvd _ _ => .op1
  | .trs9 _ _ => .op1
  | .a81 _ _ => .op1
  | .trs10 _ _ => .op1
  | .a42 _ _ => .op1
  | .trs11 _ _ _ => .op1
  | .a24 _ _ => .op1
  | .trs12 _ _ _ => .op1
  | .bf4 _ _ _ => .op1
  | .trs13 _ _ _ => .op1
  | .bif4 _ _ _ => .op1
  | .trs14 _ _ _ => .op1
  | .axj4 _ _ _ => .op1
  | .trs15 _ _ => .op1
  | .sxj4 _ _ _ => .op1
  | .cmpn4 _ _ _ => .op1
  | .cmpn8 _ _ _ => .op1
  | .andd _ _ _ => .op1
  | .cmpz4 _ _ _ => .op1
  | .andcd _ _ _ => .op1
  | .cmpz8 _ _ _ => .op1
  | .andid _ _ _ => .op1
  | .cmpnl2 _ _ _ => .op1
  | .insd _ _ _ => .op1
  | .cmpnl4 _ _ _ => .op1
  | .ord _ _ _ => .op1
  | .cmpzl2 _ _ _ => .op1
  | .orcd _ _ _ => .op1
  | .cmpzl4 _ _ _ => .op1
  | .orid _ _ _ => .op1
  | .max4 _ _ _ => .op1
  | .eord _ _ _ => .op1
  | .max8 _ _ _ => .op1
  | .notd _ _ => .op1
  | .min4 _ _ _ => .op1
  | .trd _ _ => .op1
  | .min8 _ _ _ => .op1
  | .maxl2 _ _ _ => .op1
  | .pdnxl _ _ => .op1
  | .maxl4 _ _ _ => .op1
  | .pdnde _ _ => .op1
  | .minl2 _ _ _ => .op1
  | .pdnd _ _ => .op1
  | .minl4 _ _ _ => .op1
  | .nopB => .op2
  | .nopBHi => .op2
  | .nopBMid => .op2
  | .mfx _ _ _ => .op2
  | .fm2 _ _ _ => .op2
  | .mfxc _ _ _ => .op2
  | .fms2 _ _ _ => .op2
  | .mfx2 _ _ _ => .op2
  | .mfxc2 _ _ _ => .op2
  | .trs16B _ _ => .op2
  | .mf4 _ _ _ => .op2
  | .mf8 _ _ _ => .op2
  | .trs17B _ _ => .op2
  | .ml2 _ _ _ => .op2
  | .trs18B _ _ _ => .op2
  | .uml _ _ _ => .op2
  | .trs19B _ _ => .op2
  | .uml2 _ _ _ => .op2
  | .mfa81 _ _ _ => .op2
  | .trs0B _ _ => .op2
  | .mfa41 _ _ _ => .op2
  | .trs1B _ _ _ => .op2
  | .mfa42 _ _ _ => .op2
  | .trs2B _ _ _ => .op2
  | .mfa21 _ _ _ => .op2
  | .trs3B _ _ _ => .op2
  | .mfa22 _ _ _ => .op2
  | .trs4B _ _ => .op2
  | .mfa24 _ _ _ => .op2
  | .trs5B _ _ => .op2
  | .m4 _ _ _ => .op2
  | .trs6B _ _ => .op2
  | .m2 _ _ _ => .op2
  | .trs7B _ _ => .op2
  | .trs8B _ _ => .op2
  | .trs9B _ _ => .op2
  | .lsldi _ _ _ => .op2
  | .trs10B _ _ => .op2
  | .lslxl _ _ _ => .op2
  | .trs11B _ _ _ => .op2
  | .trs12B _ _ _ => .op2
  | .asldi _ _ _ => .op2
  | .trs13B _ _ _ => .op2
  | .aslxl _ _ _ => .op2
  | .trs14B _ _ _ => .op2
  | .trdB _ _ => .op2
  | .trs15B _ _ => .op2
  | .lsld _ _ _ => .op2
  | .macx _ _ _ => .op2
  | .rold _ _ => .op2
  | .macx2 _ _ _ => .op2
  | .macxc _ _ _ => .op2
  | .asld _ _ _ => .op2
  | .macxc2 _ _ _ => .op2
  | .asrde _ _ _ => .op2
  | .mac41 _ _ _ => .op2
  | .mac81 _ _ _ => .op2
  | .btstdi _ _ => .op2
  | .macxb4 _ _ _ => .op2
  | .lsrdi _ _ _ => .op2
  | .macl2 _ _ _ => .op2
  | .lsrxl _ _ _ => .op2
  | .clrac _ => .op2
  | .ldac _ _ => .op2
  | .asrdi _ _ _ => .op2
  | .ldacd _ _ => .op2
  | .asrxl _ _ _ => .op2
  | .stac _ _ => .op2
  | .stacd _ _ => .op2
  | .smbd _ _ => .op2
  | .lsrd _ _ _ => .op2
  | .mac42 _ _ _ => .op2
  | .rord _ _ => .op2
  | .mac24 _ _ _ => .op2
  | .btstd _ _ => .op2
  | .mac22 _ _ _ => .op2
  | .mac21 _ _ _ => .op2
  | .asrd _ _ _ => .op2
  | .mac18 _ _ => .op2
  | .mac14 _ _ _ => .op2
  | .mac12 _ _ _ => .op2
  | .mac11 _ _ _ => .op2
  | .acsg8 _ _ => .op2
  | .acsg4 _ _ _ => .op2
  | .acsg2 _ _ _ => .op2
  | .acsg1 _ _ _ => .op2
  | .move9aX _ _ _ _ _ => .move
  | .move9aY _ _ => .move
  | .move9bR _ _ _ => .move
  | .move9bY _ _ => .move
  | .move9dRC _ _ _ _ => .move
  | .rti _ => .control

/-- `none`, or the refusal of a condition that does not hold. -/
def IllFormed.unless (ok : Bool) (why : IllFormed) : Option IllFormed := if ok then none else some why

/-- The accumulator number of a MAC-group instruction must be one of its list (44_mac.md R275). -/
def IllFormed.number (allowed : List Nat) (n : BitVec 5) : Option IllFormed :=
  IllFormed.unless (Machine.accOk allowed n) .accumulator

/-- The operand checks of one part; `sel` = `CFG.MAC_N_FIELD`, the field that holds an accumulator number. -/
def Instr.check (sel : SlotField) : Instr → Option IllFormed
  | .nop => none
  | .nopHi => none
  | .clrd _ => none
  | .asx2 _ _ rd => IllFormed.unless (Machine.quadOk rd) .oddQuad
  | .addd _ _ _ => none
  | .asxs _ _ _ => none
  | .subd _ _ _ => none
  | .asxs2 _ _ rd => IllFormed.unless (Machine.quadOk rd) .oddQuad
  | .adcd _ _ _ => none
  | .a4 _ _ _ => none
  | .sbcd _ _ _ => none
  | .a8 rt rs rd => IllFormed.unless (Machine.quadOk rt && Machine.quadOk rs && Machine.quadOk rd) .oddQuad
  | .addld _ _ _ => none
  | .s4 _ _ _ => none
  | .trs16 rs _ => IllFormed.unless (Machine.quadOk rs) .oddQuad
  | .s8 rt rs rd => IllFormed.unless (Machine.quadOk rt && Machine.quadOk rs && Machine.quadOk rd) .oddQuad
  | .fasx _ _ rd => IllFormed.unless (Machine.quadOk rd) .oddQuad
  | .ra4 _ _ _ => none
  | .fasxs _ _ rd => IllFormed.unless (Machine.quadOk rd) .oddQuad
  | .ra8 rt rs rd => IllFormed.unless (Machine.quadOk rt && Machine.quadOk rs && Machine.quadOk rd) .oddQuad
  | .fax _ _ _ => none
  | .sga4 _ _ _ => none
  | .fsx _ _ _ => none
  | .sga8 rt rs rd => IllFormed.unless (Machine.quadOk rt && Machine.quadOk rs && Machine.quadOk rd) .oddQuad
  | .trs17 rs _ => IllFormed.unless (Machine.quadOk rs) .oddQuad
  | .a8s rt rs rd => IllFormed.unless (Machine.quadOk rt && Machine.quadOk rs && Machine.quadOk rd) .oddQuad
  | .trs18 _ _ _ => none
  | .ms2 _ _ _ => none
  | .trs19 rs _ => IllFormed.unless (Machine.quadOk rs) .oddQuad
  | .ms4 _ _ _ => none
  | .fsa _ _ _ => none
  | .ms8 rt rs rd => IllFormed.unless (Machine.quadOk rt && Machine.quadOk rs && Machine.quadOk rd) .oddQuad
  | .trs0 rs rd => IllFormed.unless (Machine.quadOk rs && Machine.quadOk rd) .oddQuad
  | .s8s rt rs rd => IllFormed.unless (Machine.quadOk rt && Machine.quadOk rs && Machine.quadOk rd) .oddQuad
  | .trs1 _ _ _ => none
  | .negde _ _ => none
  | .trs2 _ _ _ => none
  | .allft41 rs _ => IllFormed.unless (Machine.quadOk rs) .oddQuad
  | .trs3 _ _ _ => none
  | .allft22 rs _ => IllFormed.unless (Machine.quadOk rs) .oddQuad
  | .trs4 _ rd => IllFormed.unless (Machine.quadOk rd) .oddQuad
  | .all4 rt rs rd => IllFormed.unless (Machine.quadOk rt && Machine.quadOk rs && Machine.quadOk rd) .oddQuad
  | .trs5 _ rd => IllFormed.unless (Machine.quadOk rd) .oddQuad
  | .all2 _ _ _ => none
  | .trs6 _ rd => IllFormed.unless (Machine.quadOk rd) .oddQuad
  | .al4 _ rs rd => IllFormed.unless (Machine.quadOk rs && Machine.quadOk rd) .oddQuad
  | .trs7 rs _ => IllFormed.unless (Machine.quadOk rs) .oddQuad
  | .al2 _ _ _ => none
  | .trs8 rs _ => IllFormed.unless (Machine.quadOk rs) .oddQuad
  | .norvd _ _ => none
  | .trs9 _ _ => none
  | .a81 rs _ => IllFormed.unless (Machine.quadOk rs) .oddQuad
  | .trs10 _ _ => none
  | .a42 rs _ => IllFormed.unless (Machine.quadOk rs) .oddQuad
  | .trs11 _ _ rd => IllFormed.unless (Machine.quadOk rd) .oddQuad
  | .a24 rs _ => IllFormed.unless (Machine.quadOk rs) .oddQuad
  | .trs12 _ _ rd => IllFormed.unless (Machine.quadOk rd) .oddQuad
  | .bf4 _ _ rd => IllFormed.unless (Machine.quadOk rd) .oddQuad
  | .trs13 _ _ rd => IllFormed.unless (Machine.quadOk rd) .oddQuad
  | .bif4 _ _ rd => IllFormed.unless (Machine.quadOk rd) .oddQuad
  | .trs14 _ _ _ => none
  | .axj4 rt rs rd => IllFormed.unless (Machine.quadOk rt && Machine.quadOk rs && Machine.quadOk rd) .oddQuad
  | .trs15 rs _ => IllFormed.unless (Machine.quadOk rs) .oddQuad
  | .sxj4 rt rs rd => IllFormed.unless (Machine.quadOk rt && Machine.quadOk rs && Machine.quadOk rd) .oddQuad
  | .cmpn4 _ _ _ => none
  | .cmpn8 rt rs rd => IllFormed.unless (Machine.quadOk rt && Machine.quadOk rs && Machine.quadOk rd) .oddQuad
  | .andd _ _ _ => none
  | .cmpz4 _ _ _ => none
  | .andcd _ _ _ => none
  | .cmpz8 rt rs rd => IllFormed.unless (Machine.quadOk rt && Machine.quadOk rs && Machine.quadOk rd) .oddQuad
  | .andid _ _ _ => none
  | .cmpnl2 _ _ _ => none
  | .insd _ _ _ => none
  | .cmpnl4 rt rs rd => IllFormed.unless (Machine.quadOk rt && Machine.quadOk rs && Machine.quadOk rd) .oddQuad
  | .ord _ _ _ => none
  | .cmpzl2 _ _ _ => none
  | .orcd _ _ _ => none
  | .cmpzl4 rt rs rd => IllFormed.unless (Machine.quadOk rt && Machine.quadOk rs && Machine.quadOk rd) .oddQuad
  | .orid _ _ _ => none
  | .max4 _ _ _ => none
  | .eord _ _ _ => none
  | .max8 _ rs _ => IllFormed.unless (Machine.quadOk rs) .oddQuad
  | .notd _ _ => none
  | .min4 _ _ _ => none
  | .trd _ _ => none
  | .min8 _ rs _ => IllFormed.unless (Machine.quadOk rs) .oddQuad
  | .maxl2 _ _ _ => none
  | .pdnxl _ _ => none
  | .maxl4 _ rs _ => IllFormed.unless (Machine.quadOk rs) .oddQuad
  | .pdnde _ _ => none
  | .minl2 _ _ _ => none
  | .pdnd _ _ => none
  | .minl4 _ rs _ => IllFormed.unless (Machine.quadOk rs) .oddQuad
  | .nopB => none
  | .nopBHi => none
  | .nopBMid => none
  | .mfx _ _ _ => none
  | .fm2 _ _ _ => none
  | .mfxc _ _ _ => none
  | .fms2 _ _ _ => none
  | .mfx2 _ _ _ => none
  | .mfxc2 _ _ _ => none
  | .trs16B rs _ => IllFormed.unless (Machine.quadOk rs) .oddQuad
  | .mf4 _ _ _ => none
  | .mf8 rt rs rd => IllFormed.unless (Machine.quadOk rt && Machine.quadOk rs && Machine.quadOk rd) .oddQuad
  | .trs17B rs _ => IllFormed.unless (Machine.quadOk rs) .oddQuad
  | .ml2 _ _ rd => IllFormed.unless (Machine.quadOk rd) .oddQuad
  | .trs18B _ _ _ => none
  | .uml _ _ _ => none
  | .trs19B rs _ => IllFormed.unless (Machine.quadOk rs) .oddQuad
  | .uml2 _ _ rd => IllFormed.unless (Machine.quadOk rd) .oddQuad
  | .mfa81 rt rs _ => IllFormed.unless (Machine.quadOk rt && Machine.quadOk rs) .oddQuad
  | .trs0B rs rd => IllFormed.unless (Machine.quadOk rs && Machine.quadOk rd) .oddQuad
  | .mfa41 _ _ _ => none
  | .trs1B _ _ _ => none
  | .mfa42 rt rs _ => IllFormed.unless (Machine.quadOk rt && Machine.quadOk rs) .oddQuad
  | .trs2B _ _ _ => none
  | .mfa21 _ _ _ => none
  | .trs3B _ _ _ => none
  | .mfa22 _ _ _ => none
  | .trs4B _ rd => IllFormed.unless (Machine.quadOk rd) .oddQuad
  | .mfa24 rt rs _ => IllFormed.unless (Machine.quadOk rt && Machine.quadOk rs) .oddQuad
  | .trs5B _ rd => IllFormed.unless (Machine.quadOk rd) .oddQuad
  | .m4 _ _ rd => IllFormed.unless (Machine.quadOk rd) .oddQuad
  | .trs6B _ rd => IllFormed.unless (Machine.quadOk rd) .oddQuad
  | .m2 _ _ _ => none
  | .trs7B rs _ => IllFormed.unless (Machine.quadOk rs) .oddQuad
  | .trs8B rs _ => IllFormed.unless (Machine.quadOk rs) .oddQuad
  | .trs9B _ _ => none
  | .lsldi _ _ _ => none
  | .trs10B _ _ => none
  | .lslxl _ _ _ => none
  | .trs11B _ _ rd => IllFormed.unless (Machine.quadOk rd) .oddQuad
  | .trs12B _ _ rd => IllFormed.unless (Machine.quadOk rd) .oddQuad
  | .asldi _ _ _ => none
  | .trs13B _ _ rd => IllFormed.unless (Machine.quadOk rd) .oddQuad
  | .aslxl _ _ _ => none
  | .trs14B _ _ _ => none
  | .trdB _ _ => none
  | .trs15B rs _ => IllFormed.unless (Machine.quadOk rs) .oddQuad
  | .lsld _ _ _ => none
  | .macx rt rs n => IllFormed.number Machine.accPairs (Machine.accField sel rt rs n)
  | .rold _ _ => none
  | .macx2 rt rs n => IllFormed.number Machine.accPairs (Machine.accField sel rt rs n)
  | .macxc rt rs n => IllFormed.number Machine.accPairs (Machine.accField sel rt rs n)
  | .asld _ _ _ => none
  | .macxc2 rt rs n => IllFormed.number Machine.accPairs (Machine.accField sel rt rs n)
  | .asrde _ _ _ => none
  | .mac41 rt rs n => IllFormed.number Machine.accAny (Machine.accField sel rt rs n)
  | .mac81 rt rs n => (IllFormed.unless (Machine.quadOk rt && Machine.quadOk rs) .oddQuad).or
      (IllFormed.number Machine.accAny (Machine.accField sel rt rs n))
  | .btstdi _ _ => none
  | .macxb4 rt rs n => (IllFormed.unless (Machine.quadOk rt && Machine.quadOk rs) .oddQuad).or
      (IllFormed.number Machine.accPairs (Machine.accField sel rt rs n))
  | .lsrdi _ _ _ => none
  | .macl2 rt rs n => IllFormed.number Machine.accAny (Machine.accField sel rt rs n)
  | .lsrxl _ _ _ => none
  | .clrac _ => none
  | .ldac _ _ => none
  | .asrdi _ _ _ => none
  | .ldacd _ _ => none
  | .asrxl _ _ _ => none
  | .stac _ _ => none
  | .stacd _ _ => none
  | .smbd _ _ => none
  | .lsrd _ _ _ => none
  | .mac42 rt rs n => (IllFormed.unless (Machine.quadOk rt && Machine.quadOk rs) .oddQuad).or
      (IllFormed.number Machine.accPairs (Machine.accField sel rt rs n))
  | .rord _ _ => none
  | .mac24 rt rs n => (IllFormed.unless (Machine.quadOk rt && Machine.quadOk rs) .oddQuad).or
      (IllFormed.number Machine.accQuads (Machine.accField sel rt rs n))
  | .btstd _ _ => none
  | .mac22 rt rs n => IllFormed.number Machine.accPairs (Machine.accField sel rt rs n)
  | .mac21 rt rs n => IllFormed.number Machine.accAny (Machine.accField sel rt rs n)
  | .asrd _ _ _ => none
  | .mac18 rt rs => IllFormed.unless (Machine.quadOk rt && Machine.quadOk rs) .oddQuad
  | .mac14 rt rs n => IllFormed.number Machine.accQuads (Machine.accField sel rt rs n)
  | .mac12 rt rs n => IllFormed.number Machine.accPairs (Machine.accField sel rt rs n)
  | .mac11 rt rs n => IllFormed.number Machine.accAny (Machine.accField sel rt rs n)
  | .acsg8 _ rs => IllFormed.unless (Machine.quadOk rs) .oddQuad
  | .acsg4 rt rs n => IllFormed.number Machine.accQuads (Machine.accField sel rt rs n)
  | .acsg2 rt rs n => IllFormed.number Machine.accPairs (Machine.accField sel rt rs n)
  | .acsg1 rt rs n => IllFormed.number Machine.accAny (Machine.accField sel rt rs n)
  | .move9aX _ _ _ _ _ => none
  | .move9aY _ _ => none
  | .move9bR rs rd l => IllFormed.unless (!l || (Machine.quadOk rs && Machine.quadOk rd)) .oddQuad
  | .move9bY _ _ => none
  | .move9dRC rr rc l _ =>
    if Machine.stackReg rc then some .stackRegister else
    match Machine.width9d rc l with
    | none => some .widthBit
    | some w =>
      match rc with
      | .ac n => (IllFormed.unless (Machine.accViewOk n w) .accumulatorView).or
          (IllFormed.unless (Machine.regOk w rr) .oddQuad)
      | _ => none
  | .rti _ => none

/-- A well-formed part. -/
def Instr.wf (sel : SlotField) (x : Instr) : Bool := (x.check sel).isNone

/-- Each compute slot holds an operation of that slot. -/
def Bundle.slotsOk : Bundle → Bool
  | .f9a op1 op2 _ _ _ _ _ _ => op1.place == .op1 && op2.place == .op2
  | .f9b op1 op2 _ _ _ _ _ => op1.place == .op1 && op2.place == .op2
  | .f9d op1 op2 _ _ _ _ => op1.place == .op1 && op2.place == .op2
  | .rti _ => true

/-- Each compute slot holds an operation of that slot and every part passes its own check. -/
def Bundle.check (sel : SlotField) (b : Bundle) : Option IllFormed :=
  if b.slotsOk then b.parts.findSome? (Instr.check sel) else some .slot

/-- A well-formed instruction. -/
def Bundle.wf (sel : SlotField) (b : Bundle) : Bool := (b.check sel).isNone

end Sys2Proof
end

