-- ==== Sys2Proof/Decode.lean ====
section
/-! DEFINITION. The decoder, total on any two words, and after it the encoder (30_encoding.md R130..R174). A 64-bit
instruction is {W2, W1}; W1 alone decides the length through the format code W1[10:7]. `op1Table` and `op2Table` are
Tables 12 and 13; a code without a row is reserved (R166). Operand numbers an instruction may not use decode here
and are refused by the check of WellFormed and by the meaning. -/

namespace Sys2Proof

/-- Why two words are no instruction this spec can execute. -/
inductive DecodeError where
  /-- W1[10:7] is a format of the base instruction set, whose opcodes are not in the source (R133, R135). -/
  | baseFormat
  /-- An empty cell of Table 12 (R166). -/
  | reservedOp1
  /-- An empty cell of Table 13 (R166). -/
  | reservedOp2
  /-- W1[10:7] = 1111 with OP3 = 10 (R161). -/
  | reservedOp3
  /-- An RC code the source does not assign (R151, R153, R154). -/
  | reservedRc
  deriving DecidableEq, Repr

/-- A row of an opcode table: the 7-bit code, and the operation from the fields T, D, S of its slot. -/
abbrev SlotRow := BitVec 7 × (BitVec 5 → BitVec 5 → BitVec 5 → Instr)

/-- Table 12, the OP1 map by code (R164), part 0. -/
def op1Table0 : List SlotRow := [
  (0b0000000#7, fun _ _ _ => .nop),
  (0b0000001#7, fun _ d _ => .clrd d),
  (0b0000010#7, fun t d s => .addd t s d),
  (0b0000011#7, fun t d s => .subd t s d),
  (0b0000100#7, fun t d s => .adcd t s d),
  (0b0000101#7, fun t d s => .sbcd t s d),
  (0b0000110#7, fun t d s => .addld t s d),
  (0b0000111#7, fun _ d s => .trs16 s d),
  (0b0001000#7, fun t d s => .fasx t s d),
  (0b0001001#7, fun t d s => .fasxs t s d),
  (0b0001010#7, fun t d s => .fax t s d),
  (0b0001011#7, fun t d s => .fsx t s d),
  (0b0001100#7, fun _ d s => .trs17 s d),
  (0b0001101#7, fun t d s => .trs18 t s d),
  (0b0001110#7, fun _ d s => .trs19 s d),
  (0b0001111#7, fun t d s => .fsa t s d),
  (0b0010000#7, fun _ d s => .trs0 s d),
  (0b0010001#7, fun t d s => .trs1 t s d),
  (0b0010010#7, fun t d s => .trs2 t s d),
  (0b0010011#7, fun t d s => .trs3 t s d),
  (0b0010100#7, fun _ d s => .trs4 s d),
  (0b0010101#7, fun _ d s => .trs5 s d),
  (0b0010110#7, fun _ d s => .trs6 s d),
  (0b0010111#7, fun _ d s => .trs7 s d),
  (0b0011000#7, fun _ d s => .trs8 s d),
  (0b0011001#7, fun _ d s => .trs9 s d),
  (0b0011010#7, fun _ d s => .trs10 s d),
  (0b0011011#7, fun t d s => .trs11 t s d),
  (0b0011100#7, fun t d s => .trs12 t s d),
  (0b0011101#7, fun t d s => .trs13 t s d),
  (0b0011110#7, fun t d s => .trs14 t s d),
  (0b0011111#7, fun _ d s => .trs15 s d)]

/-- Table 12, the OP1 map by code (R164), part 1. -/
def op1Table1 : List SlotRow := [
  (0b0100001#7, fun t d s => .asx2 t s d),
  (0b0100010#7, fun t d s => .asxs t s d),
  (0b0100011#7, fun t d s => .asxs2 t s d),
  (0b0100100#7, fun t d s => .a4 t s d),
  (0b0100101#7, fun t d s => .a8 t s d),
  (0b0100110#7, fun t d s => .s4 t s d),
  (0b0100111#7, fun t d s => .s8 t s d),
  (0b0101000#7, fun t d s => .ra4 t s d),
  (0b0101001#7, fun t d s => .ra8 t s d),
  (0b0101010#7, fun t d s => .sga4 t s d),
  (0b0101011#7, fun t d s => .sga8 t s d),
  (0b0101100#7, fun t d s => .a8s t s d),
  (0b0101101#7, fun t d s => .ms2 t s d),
  (0b0101110#7, fun t d s => .ms4 t s d),
  (0b0101111#7, fun t d s => .ms8 t s d),
  (0b0110000#7, fun t d s => .s8s t s d),
  (0b0110001#7, fun _ d s => .negde s d),
  (0b0110010#7, fun _ d s => .allft41 s d),
  (0b0110011#7, fun _ d s => .allft22 s d),
  (0b0110100#7, fun t d s => .all4 t s d),
  (0b0110101#7, fun t d s => .all2 t s d),
  (0b0110110#7, fun t d s => .al4 t s d),
  (0b0110111#7, fun t d s => .al2 t s d),
  (0b0111000#7, fun _ d s => .norvd s d),
  (0b0111001#7, fun _ d s => .a81 s d),
  (0b0111010#7, fun _ d s => .a42 s d),
  (0b0111011#7, fun _ d s => .a24 s d),
  (0b0111100#7, fun t d s => .bf4 t s d),
  (0b0111101#7, fun t d s => .bif4 t s d),
  (0b0111110#7, fun t d s => .axj4 t s d),
  (0b0111111#7, fun t d s => .sxj4 t s d),
  (0b1000000#7, fun _ _ _ => .nopHi)]

/-- Table 12, the OP1 map by code (R164), part 2. -/
def op1Table2 : List SlotRow := [
  (0b1010001#7, fun t d s => .andd t s d),
  (0b1010010#7, fun t d s => .andcd t s d),
  (0b1010011#7, fun t d s => .andid t s d),
  (0b1010100#7, fun t d s => .insd t s d),
  (0b1010101#7, fun t d s => .ord t s d),
  (0b1010110#7, fun t d s => .orcd t s d),
  (0b1010111#7, fun t d s => .orid t s d),
  (0b1011000#7, fun t d s => .eord t s d),
  (0b1011001#7, fun _ d s => .notd s d),
  (0b1011010#7, fun _ d s => .trd s d),
  (0b1011101#7, fun _ d s => .pdnxl s d),
  (0b1011110#7, fun _ d s => .pdnde s d),
  (0b1011111#7, fun _ d s => .pdnd s d),
  (0b1100000#7, fun t d s => .cmpn4 t s d),
  (0b1100001#7, fun t d s => .cmpn8 t s d),
  (0b1100010#7, fun t d s => .cmpz4 t s d),
  (0b1100011#7, fun t d s => .cmpz8 t s d),
  (0b1100100#7, fun t d s => .cmpnl2 t s d),
  (0b1100101#7, fun t d s => .cmpnl4 t s d),
  (0b1100110#7, fun t d s => .cmpzl2 t s d),
  (0b1100111#7, fun t d s => .cmpzl4 t s d),
  (0b1101000#7, fun t d s => .max4 t s d),
  (0b1101001#7, fun t d s => .max8 t s d),
  (0b1101010#7, fun t d s => .min4 t s d),
  (0b1101011#7, fun t d s => .min8 t s d),
  (0b1101100#7, fun t d s => .maxl2 t s d),
  (0b1101101#7, fun t d s => .maxl4 t s d),
  (0b1101110#7, fun t d s => .minl2 t s d),
  (0b1101111#7, fun t d s => .minl4 t s d)]

/-- Table 12, the OP1 map by code (R164). -/
def op1Table : List SlotRow := op1Table0 ++ op1Table1 ++ op1Table2

/-- Table 13, the OP2 map by code {M,OP2} (R165), part 0. -/
def op2Table0 : List SlotRow := [
  (0b0000000#7, fun _ _ _ => .nopB),
  (0b0000010#7, fun t d s => .fm2 t s d),
  (0b0000011#7, fun t d s => .fms2 t s d),
  (0b0000111#7, fun _ d s => .trs16B s d),
  (0b0001100#7, fun _ d s => .trs17B s d),
  (0b0001101#7, fun t d s => .trs18B t s d),
  (0b0001110#7, fun _ d s => .trs19B s d),
  (0b0010000#7, fun _ d s => .trs0B s d),
  (0b0010001#7, fun t d s => .trs1B t s d),
  (0b0010010#7, fun t d s => .trs2B t s d),
  (0b0010011#7, fun t d s => .trs3B t s d),
  (0b0010100#7, fun _ d s => .trs4B s d),
  (0b0010101#7, fun _ d s => .trs5B s d),
  (0b0010110#7, fun _ d s => .trs6B s d),
  (0b0010111#7, fun _ d s => .trs7B s d),
  (0b0011000#7, fun _ d s => .trs8B s d),
  (0b0011001#7, fun _ d s => .trs9B s d),
  (0b0011010#7, fun _ d s => .trs10B s d),
  (0b0011011#7, fun t d s => .trs11B t s d),
  (0b0011100#7, fun t d s => .trs12B t s d),
  (0b0011101#7, fun t d s => .trs13B t s d),
  (0b0011110#7, fun t d s => .trs14B t s d),
  (0b0011111#7, fun _ d s => .trs15B s d),
  (0b0100001#7, fun t d s => .mfx t s d),
  (0b0100010#7, fun t d s => .mfxc t s d),
  (0b0100011#7, fun t d s => .mfx2 t s d),
  (0b0100100#7, fun t d s => .mfxc2 t s d),
  (0b0100101#7, fun t d s => .mf4 t s d),
  (0b0100110#7, fun t d s => .mf8 t s d),
  (0b0100111#7, fun t d s => .ml2 t s d),
  (0b0101000#7, fun t d s => .uml t s d),
  (0b0101001#7, fun t d s => .uml2 t s d)]

/-- Table 13, the OP2 map by code {M,OP2} (R165), part 1. -/
def op2Table1 : List SlotRow := [
  (0b0101010#7, fun t d s => .mfa81 t s d),
  (0b0101011#7, fun t d s => .mfa41 t s d),
  (0b0101100#7, fun t d s => .mfa42 t s d),
  (0b0101101#7, fun t d s => .mfa21 t s d),
  (0b0101110#7, fun t d s => .mfa22 t s d),
  (0b0101111#7, fun t d s => .mfa24 t s d),
  (0b0110000#7, fun t d s => .m4 t s d),
  (0b0110001#7, fun t d s => .m2 t s d),
  (0b1000000#7, fun _ _ _ => .nopBMid),
  (0b1000001#7, fun t d s => .macx t s d),
  (0b1000010#7, fun t d s => .macx2 t s d),
  (0b1000011#7, fun t d s => .macxc t s d),
  (0b1000100#7, fun t d s => .macxc2 t s d),
  (0b1000101#7, fun t d s => .mac41 t s d),
  (0b1000110#7, fun t d s => .mac81 t s d),
  (0b1000111#7, fun t d s => .macxb4 t s d),
  (0b1001000#7, fun t d s => .macl2 t s d),
  (0b1001001#7, fun t _ _ => .clrac t),
  (0b1001010#7, fun t d _ => .ldac t d),
  (0b1001011#7, fun t d _ => .ldacd t d),
  (0b1001100#7, fun t _ s => .stac t s),
  (0b1001101#7, fun t _ s => .stacd t s),
  (0b1010000#7, fun t d s => .mac42 t s d),
  (0b1010001#7, fun t d s => .mac24 t s d),
  (0b1010010#7, fun t d s => .mac22 t s d),
  (0b1010011#7, fun t d s => .mac21 t s d),
  (0b1010100#7, fun t _ s => .mac18 t s),
  (0b1010101#7, fun t d s => .mac14 t s d),
  (0b1010110#7, fun t d s => .mac12 t s d),
  (0b1010111#7, fun t d s => .mac11 t s d),
  (0b1011000#7, fun t _ s => .acsg8 t s),
  (0b1011001#7, fun t d s => .acsg4 t s d)]

/-- Table 13, the OP2 map by code {M,OP2} (R165), part 2. -/
def op2Table2 : List SlotRow := [
  (0b1011010#7, fun t d s => .acsg2 t s d),
  (0b1011011#7, fun t d s => .acsg1 t s d),
  (0b1100000#7, fun _ _ _ => .nopBHi),
  (0b1100001#7, fun t d s => .lsldi t s d),
  (0b1100010#7, fun t d s => .lslxl t s d),
  (0b1100100#7, fun t d s => .asldi t s d),
  (0b1100101#7, fun t d s => .aslxl t s d),
  (0b1100110#7, fun _ d s => .trdB s d),
  (0b1101000#7, fun t d s => .lsld t s d),
  (0b1101001#7, fun _ d s => .rold s d),
  (0b1101100#7, fun t d s => .asld t s d),
  (0b1101101#7, fun t d s => .asrde t s d),
  (0b1110000#7, fun t _ s => .btstdi t s),
  (0b1110001#7, fun t d s => .lsrdi t s d),
  (0b1110010#7, fun t d s => .lsrxl t s d),
  (0b1110100#7, fun t d s => .asrdi t s d),
  (0b1110101#7, fun t d s => .asrxl t s d),
  (0b1110111#7, fun _ d s => .smbd s d),
  (0b1111000#7, fun t d s => .lsrd t s d),
  (0b1111001#7, fun _ d s => .rord s d),
  (0b1111010#7, fun t _ s => .btstd t s),
  (0b1111100#7, fun t d s => .asrd t s d)]

/-- Table 13, the OP2 map by code {M,OP2} (R165). -/
def op2Table : List SlotRow := op2Table0 ++ op2Table1 ++ op2Table2

/-- The row of a table with a given code. -/
def lookup (tab : List SlotRow) (code : BitVec 7) (t d s : BitVec 5) : Option Instr :=
  match tab with
  | [] => none
  | (c, f) :: rest => if c = code then some (f t d s) else lookup rest code t d s

/-- The control register of a code in subset (sc,sx) (R150..R154); `none` for a reserved code. -/
def decodeRc (sc sx : Bool) (rc : BitVec 5) : Option CReg :=
  let low := rc.extractLsb' 0 3
  match sc, sx with
  | false, true => some (.x rc)
  | true, true => if rc.getLsbD 4 then none else some (.ac (rc.extractLsb' 0 4))
  | false, false =>
    match rc.toNat / 8 with
    | 0 => some (.a low)
    | 1 => some (.i low)
    | 2 => some (.m low)
    | _ =>
      match rc.toNat with
      | 24 => some .ptrT
      | 25 => some .it
      | 26 => some .mt
      | 27 => some .dt
      | 31 => some .ivar
      | _ => none
  | true, false =>
    match rc.toNat with
    | 0 => some .dcsr
    | 1 => some .sr
    | 2 => some .idr
    | 3 => some .efr
    | 4 => some .irqr
    | 5 => some .imaskr
    | 6 => some .tmr
    | 7 => some .arbr
    | 8 => some .pc
    | 9 => some .ss
    | 10 => some .la
    | 11 => some .csl
    | 12 => some .lc
    | 13 => some .csh
    | 14 => some .sp
    | 15 => some (.sar 0)
    | 16 => some .cntr
    | 17 => some (.sar 1)
    | 18 => some (.sar 2)
    | 19 => some (.sar 3)
    | 20 => some (.sar 4)
    | 21 => some (.sar 5)
    | 22 => some (.sar 6)
    | 23 => some (.sar 7)
    | 24 => some .pdnr
    | 25 => some .ccr
    | 26 => some .sfr
    | _ => none

/-- Whether W1 begins a two-word instruction of this spec: W1[10:7] = 1111 (R132, R133). -/
def isWide (w1 : Word) : Bool := w1.extractLsb' 7 4 == 0b1111#4

/-- The bundle of OP3 = W2[7:6], the two operations already decoded (R158..R161). -/
def decodeMoves (op1 op2 : Instr) (w1 w2 : Word) : Except DecodeError Bundle :=
  match (w2.extractLsb' 6 2).toNat with
  | 0 => .ok (.f9a op1 op2 (w1.extractLsb' 12 4) (w1.getLsbD 11) (w2.extractLsb' 15 2) (w2.extractLsb' 12 3)
      (w2.extractLsb' 9 3) (w2.getLsbD 8))
  | 1 => .ok (.f9b op1 op2 (w1.extractLsb' 11 5) (w2.extractLsb' 15 2) (w2.extractLsb' 10 5) (w2.getLsbD 9)
      (w2.getLsbD 8))
  | 3 =>
    match decodeRc (w2.getLsbD 9) (w2.getLsbD 16) (w2.extractLsb' 10 5) with
    | some rc => .ok (.f9d op1 op2 (w1.extractLsb' 11 5) rc (w2.getLsbD 15) (w2.getLsbD 8))
    | none => .error .reservedRc
  | _ => .error .reservedOp3

/-- A two-word instruction: OP1 = W1[6:0], {M,OP2} = {W1[16], W2[5:0]} (R162, R163). -/
def decodeWide (w1 w2 : Word) : Except DecodeError Bundle :=
  match lookup op1Table (w1.extractLsb' 0 7) (w1.extractLsb' 27 5) (w1.extractLsb' 22 5) (w1.extractLsb' 17 5) with
  | none => .error .reservedOp1
  | some op1 =>
    match lookup op2Table (w1.extractLsb' 16 1 ++ w2.extractLsb' 0 6) (w2.extractLsb' 27 5) (w2.extractLsb' 22 5)
        (w2.extractLsb' 17 5) with
    | none => .error .reservedOp2
    | some op2 => decodeMoves op1 op2 w1 w2

/-- The decoder. A one-word instruction ignores `w2`; RTI is the only one of this spec (R169), recognised by the open
opcode `opRts`. -/
def decode (opRts : BitVec 7) (w1 w2 : Word) : Except DecodeError Bundle :=
  if isWide w1 then decodeWide w1 w2
  else if w1.extractLsb' 7 4 = 0b0011#4 ∧ w1.getLsbD 27 = false ∧ w1.extractLsb' 0 7 = opRts then
    .ok (.rti (w1.extractLsb' 28 4))
  else .error .baseFormat

/-! The encoder. -/

/-- The 7-bit code of an operation: the OP1 code, or {M,OP2} (R164, R165). -/
def Instr.code : Instr → BitVec 7
  | .nop => 0b0000000#7
  | .nopHi => 0b1000000#7
  | .clrd _ => 0b0000001#7
  | .asx2 _ _ _ => 0b0100001#7
  | .addd _ _ _ => 0b0000010#7
  | .asxs _ _ _ => 0b0100010#7
  | .subd _ _ _ => 0b0000011#7
  | .asxs2 _ _ _ => 0b0100011#7
  | .adcd _ _ _ => 0b0000100#7
  | .a4 _ _ _ => 0b0100100#7
  | .sbcd _ _ _ => 0b0000101#7
  | .a8 _ _ _ => 0b0100101#7
  | .addld _ _ _ => 0b0000110#7
  | .s4 _ _ _ => 0b0100110#7
  | .trs16 _ _ => 0b0000111#7
  | .s8 _ _ _ => 0b0100111#7
  | .fasx _ _ _ => 0b0001000#7
  | .ra4 _ _ _ => 0b0101000#7
  | .fasxs _ _ _ => 0b0001001#7
  | .ra8 _ _ _ => 0b0101001#7
  | .fax _ _ _ => 0b0001010#7
  | .sga4 _ _ _ => 0b0101010#7
  | .fsx _ _ _ => 0b0001011#7
  | .sga8 _ _ _ => 0b0101011#7
  | .trs17 _ _ => 0b0001100#7
  | .a8s _ _ _ => 0b0101100#7
  | .trs18 _ _ _ => 0b0001101#7
  | .ms2 _ _ _ => 0b0101101#7
  | .trs19 _ _ => 0b0001110#7
  | .ms4 _ _ _ => 0b0101110#7
  | .fsa _ _ _ => 0b0001111#7
  | .ms8 _ _ _ => 0b0101111#7
  | .trs0 _ _ => 0b0010000#7
  | .s8s _ _ _ => 0b0110000#7
  | .trs1 _ _ _ => 0b0010001#7
  | .negde _ _ => 0b0110001#7
  | .trs2 _ _ _ => 0b0010010#7
  | .allft41 _ _ => 0b0110010#7
  | .trs3 _ _ _ => 0b0010011#7
  | .allft22 _ _ => 0b0110011#7
  | .trs4 _ _ => 0b0010100#7
  | .all4 _ _ _ => 0b0110100#7
  | .trs5 _ _ => 0b0010101#7
  | .all2 _ _ _ => 0b0110101#7
  | .trs6 _ _ => 0b0010110#7
  | .al4 _ _ _ => 0b0110110#7
  | .trs7 _ _ => 0b0010111#7
  | .al2 _ _ _ => 0b0110111#7
  | .trs8 _ _ => 0b0011000#7
  | .norvd _ _ => 0b0111000#7
  | .trs9 _ _ => 0b0011001#7
  | .a81 _ _ => 0b0111001#7
  | .trs10 _ _ => 0b0011010#7
  | .a42 _ _ => 0b0111010#7
  | .trs11 _ _ _ => 0b0011011#7
  | .a24 _ _ => 0b0111011#7
  | .trs12 _ _ _ => 0b0011100#7
  | .bf4 _ _ _ => 0b0111100#7
  | .trs13 _ _ _ => 0b0011101#7
  | .bif4 _ _ _ => 0b0111101#7
  | .trs14 _ _ _ => 0b0011110#7
  | .axj4 _ _ _ => 0b0111110#7
  | .trs15 _ _ => 0b0011111#7
  | .sxj4 _ _ _ => 0b0111111#7
  | .cmpn4 _ _ _ => 0b1100000#7
  | .cmpn8 _ _ _ => 0b1100001#7
  | .andd _ _ _ => 0b1010001#7
  | .cmpz4 _ _ _ => 0b1100010#7
  | .andcd _ _ _ => 0b1010010#7
  | .cmpz8 _ _ _ => 0b1100011#7
  | .andid _ _ _ => 0b1010011#7
  | .cmpnl2 _ _ _ => 0b1100100#7
  | .insd _ _ _ => 0b1010100#7
  | .cmpnl4 _ _ _ => 0b1100101#7
  | .ord _ _ _ => 0b1010101#7
  | .cmpzl2 _ _ _ => 0b1100110#7
  | .orcd _ _ _ => 0b1010110#7
  | .cmpzl4 _ _ _ => 0b1100111#7
  | .orid _ _ _ => 0b1010111#7
  | .max4 _ _ _ => 0b1101000#7
  | .eord _ _ _ => 0b1011000#7
  | .max8 _ _ _ => 0b1101001#7
  | .notd _ _ => 0b1011001#7
  | .min4 _ _ _ => 0b1101010#7
  | .trd _ _ => 0b1011010#7
  | .min8 _ _ _ => 0b1101011#7
  | .maxl2 _ _ _ => 0b1101100#7
  | .pdnxl _ _ => 0b1011101#7
  | .maxl4 _ _ _ => 0b1101101#7
  | .pdnde _ _ => 0b1011110#7
  | .minl2 _ _ _ => 0b1101110#7
  | .pdnd _ _ => 0b1011111#7
  | .minl4 _ _ _ => 0b1101111#7
  | .nopB => 0b0000000#7
  | .nopBHi => 0b1100000#7
  | .nopBMid => 0b1000000#7
  | .mfx _ _ _ => 0b0100001#7
  | .fm2 _ _ _ => 0b0000010#7
  | .mfxc _ _ _ => 0b0100010#7
  | .fms2 _ _ _ => 0b0000011#7
  | .mfx2 _ _ _ => 0b0100011#7
  | .mfxc2 _ _ _ => 0b0100100#7
  | .trs16B _ _ => 0b0000111#7
  | .mf4 _ _ _ => 0b0100101#7
  | .mf8 _ _ _ => 0b0100110#7
  | .trs17B _ _ => 0b0001100#7
  | .ml2 _ _ _ => 0b0100111#7
  | .trs18B _ _ _ => 0b0001101#7
  | .uml _ _ _ => 0b0101000#7
  | .trs19B _ _ => 0b0001110#7
  | .uml2 _ _ _ => 0b0101001#7
  | .mfa81 _ _ _ => 0b0101010#7
  | .trs0B _ _ => 0b0010000#7
  | .mfa41 _ _ _ => 0b0101011#7
  | .trs1B _ _ _ => 0b0010001#7
  | .mfa42 _ _ _ => 0b0101100#7
  | .trs2B _ _ _ => 0b0010010#7
  | .mfa21 _ _ _ => 0b0101101#7
  | .trs3B _ _ _ => 0b0010011#7
  | .mfa22 _ _ _ => 0b0101110#7
  | .trs4B _ _ => 0b0010100#7
  | .mfa24 _ _ _ => 0b0101111#7
  | .trs5B _ _ => 0b0010101#7
  | .m4 _ _ _ => 0b0110000#7
  | .trs6B _ _ => 0b0010110#7
  | .m2 _ _ _ => 0b0110001#7
  | .trs7B _ _ => 0b0010111#7
  | .trs8B _ _ => 0b0011000#7
  | .trs9B _ _ => 0b0011001#7
  | .lsldi _ _ _ => 0b1100001#7
  | .trs10B _ _ => 0b0011010#7
  | .lslxl _ _ _ => 0b1100010#7
  | .trs11B _ _ _ => 0b0011011#7
  | .trs12B _ _ _ => 0b0011100#7
  | .asldi _ _ _ => 0b1100100#7
  | .trs13B _ _ _ => 0b0011101#7
  | .aslxl _ _ _ => 0b1100101#7
  | .trs14B _ _ _ => 0b0011110#7
  | .trdB _ _ => 0b1100110#7
  | .trs15B _ _ => 0b0011111#7
  | .lsld _ _ _ => 0b1101000#7
  | .macx _ _ _ => 0b1000001#7
  | .rold _ _ => 0b1101001#7
  | .macx2 _ _ _ => 0b1000010#7
  | .macxc _ _ _ => 0b1000011#7
  | .asld _ _ _ => 0b1101100#7
  | .macxc2 _ _ _ => 0b1000100#7
  | .asrde _ _ _ => 0b1101101#7
  | .mac41 _ _ _ => 0b1000101#7
  | .mac81 _ _ _ => 0b1000110#7
  | .btstdi _ _ => 0b1110000#7
  | .macxb4 _ _ _ => 0b1000111#7
  | .lsrdi _ _ _ => 0b1110001#7
  | .macl2 _ _ _ => 0b1001000#7
  | .lsrxl _ _ _ => 0b1110010#7
  | .clrac _ => 0b1001001#7
  | .ldac _ _ => 0b1001010#7
  | .asrdi _ _ _ => 0b1110100#7
  | .ldacd _ _ => 0b1001011#7
  | .asrxl _ _ _ => 0b1110101#7
  | .stac _ _ => 0b1001100#7
  | .stacd _ _ => 0b1001101#7
  | .smbd _ _ => 0b1110111#7
  | .lsrd _ _ _ => 0b1111000#7
  | .mac42 _ _ _ => 0b1010000#7
  | .rord _ _ => 0b1111001#7
  | .mac24 _ _ _ => 0b1010001#7
  | .btstd _ _ => 0b1111010#7
  | .mac22 _ _ _ => 0b1010010#7
  | .mac21 _ _ _ => 0b1010011#7
  | .asrd _ _ _ => 0b1111100#7
  | .mac18 _ _ => 0b1010100#7
  | .mac14 _ _ _ => 0b1010101#7
  | .mac12 _ _ _ => 0b1010110#7
  | .mac11 _ _ _ => 0b1010111#7
  | .acsg8 _ _ => 0b1011000#7
  | .acsg4 _ _ _ => 0b1011001#7
  | .acsg2 _ _ _ => 0b1011010#7
  | .acsg1 _ _ _ => 0b1011011#7
  | .move9aX _ _ _ _ _ => 0
  | .move9aY _ _ => 0
  | .move9bR _ _ _ => 0
  | .move9bY _ _ => 0
  | .move9dRC _ _ _ _ => 0
  | .rti _ => 0

/-- What the T field of the slot holds: a register number or the immediate #5; 0 where the operation
names no such operand (R162: the field is ignored). -/
def Instr.fieldT : Instr → BitVec 5
  | .nop => 0
  | .nopHi => 0
  | .clrd _ => 0
  | .asx2 rt _ _ => rt
  | .addd rt _ _ => rt
  | .asxs rt _ _ => rt
  | .subd rt _ _ => rt
  | .asxs2 rt _ _ => rt
  | .adcd rt _ _ => rt
  | .a4 rt _ _ => rt
  | .sbcd rt _ _ => rt
  | .a8 rt _ _ => rt
  | .addld rt _ _ => rt
  | .s4 rt _ _ => rt
  | .trs16 _ _ => 0
  | .s8 rt _ _ => rt
  | .fasx rt _ _ => rt
  | .ra4 rt _ _ => rt
  | .fasxs rt _ _ => rt
  | .ra8 rt _ _ => rt
  | .fax rt _ _ => rt
  | .sga4 rt _ _ => rt
  | .fsx rt _ _ => rt
  | .sga8 rt _ _ => rt
  | .trs17 _ _ => 0
  | .a8s rt _ _ => rt
  | .trs18 rt _ _ => rt
  | .ms2 rt _ _ => rt
  | .trs19 _ _ => 0
  | .ms4 rt _ _ => rt
  | .fsa rt _ _ => rt
  | .ms8 rt _ _ => rt
  | .trs0 _ _ => 0
  | .s8s rt _ _ => rt
  | .trs1 rt _ _ => rt
  | .negde _ _ => 0
  | .trs2 rt _ _ => rt
  | .allft41 _ _ => 0
  | .trs3 rt _ _ => rt
  | .allft22 _ _ => 0
  | .trs4 _ _ => 0
  | .all4 rt _ _ => rt
  | .trs5 _ _ => 0
  | .all2 rt _ _ => rt
  | .trs6 _ _ => 0
  | .al4 rt _ _ => rt
  | .trs7 _ _ => 0
  | .al2 rt _ _ => rt
  | .trs8 _ _ => 0
  | .norvd _ _ => 0
  | .trs9 _ _ => 0
  | .a81 _ _ => 0
  | .trs10 _ _ => 0
  | .a42 _ _ => 0
  | .trs11 rt _ _ => rt
  | .a24 _ _ => 0
  | .trs12 rt _ _ => rt
  | .bf4 rt _ _ => rt
  | .trs13 rt _ _ => rt
  | .bif4 rt _ _ => rt
  | .trs14 rt _ _ => rt
  | .axj4 rt _ _ => rt
  | .trs15 _ _ => 0
  | .sxj4 rt _ _ => rt
  | .cmpn4 rt _ _ => rt
  | .cmpn8 rt _ _ => rt
  | .andd rt _ _ => rt
  | .cmpz4 rt _ _ => rt
  | .andcd rt _ _ => rt
  | .cmpz8 rt _ _ => rt
  | .andid rt _ _ => rt
  | .cmpnl2 rt _ _ => rt
  | .insd rt _ _ => rt
  | .cmpnl4 rt _ _ => rt
  | .ord rt _ _ => rt
  | .cmpzl2 rt _ _ => rt
  | .orcd rt _ _ => rt
  | .cmpzl4 rt _ _ => rt
  | .orid rt _ _ => rt
  | .max4 rt _ _ => rt
  | .eord rt _ _ => rt
  | .max8 rt _ _ => rt
  | .notd _ _ => 0
  | .min4 rt _ _ => rt
  | .trd _ _ => 0
  | .min8 rt _ _ => rt
  | .maxl2 rt _ _ => rt
  | .pdnxl _ _ => 0
  | .maxl4 rt _ _ => rt
  | .pdnde _ _ => 0
  | .minl2 rt _ _ => rt
  | .pdnd _ _ => 0
  | .minl4 rt _ _ => rt
  | .nopB => 0
  | .nopBHi => 0
  | .nopBMid => 0
  | .mfx rt _ _ => rt
  | .fm2 rt _ _ => rt
  | .mfxc rt _ _ => rt
  | .fms2 rt _ _ => rt
  | .mfx2 rt _ _ => rt
  | .mfxc2 rt _ _ => rt
  | .trs16B _ _ => 0
  | .mf4 rt _ _ => rt
  | .mf8 rt _ _ => rt
  | .trs17B _ _ => 0
  | .ml2 rt _ _ => rt
  | .trs18B rt _ _ => rt
  | .uml rt _ _ => rt
  | .trs19B _ _ => 0
  | .uml2 rt _ _ => rt
  | .mfa81 rt _ _ => rt
  | .trs0B _ _ => 0
  | .mfa41 rt _ _ => rt
  | .trs1B rt _ _ => rt
  | .mfa42 rt _ _ => rt
  | .trs2B rt _ _ => rt
  | .mfa21 rt _ _ => rt
  | .trs3B rt _ _ => rt
  | .mfa22 rt _ _ => rt
  | .trs4B _ _ => 0
  | .mfa24 rt _ _ => rt
  | .trs5B _ _ => 0
  | .m4 rt _ _ => rt
  | .trs6B _ _ => 0
  | .m2 rt _ _ => rt
  | .trs7B _ _ => 0
  | .trs8B _ _ => 0
  | .trs9B _ _ => 0
  | .lsldi imm _ _ => imm
  | .trs10B _ _ => 0
  | .lslxl rt _ _ => rt
  | .trs11B rt _ _ => rt
  | .trs12B rt _ _ => rt
  | .asldi imm _ _ => imm
  | .trs13B rt _ _ => rt
  | .aslxl rt _ _ => rt
  | .trs14B rt _ _ => rt
  | .trdB _ _ => 0
  | .trs15B _ _ => 0
  | .lsld rt _ _ => rt
  | .macx rt _ _ => rt
  | .rold _ _ => 0
  | .macx2 rt _ _ => rt
  | .macxc rt _ _ => rt
  | .asld rt _ _ => rt
  | .macxc2 rt _ _ => rt
  | .asrde rt _ _ => rt
  | .mac41 rt _ _ => rt
  | .mac81 rt _ _ => rt
  | .btstdi imm _ => imm
  | .macxb4 rt _ _ => rt
  | .lsrdi imm _ _ => imm
  | .macl2 rt _ _ => rt
  | .lsrxl rt _ _ => rt
  | .clrac rt => rt
  | .ldac rt _ => rt
  | .asrdi imm _ _ => imm
  | .ldacd rt _ => rt
  | .asrxl rt _ _ => rt
  | .stac rt _ => rt
  | .stacd rt _ => rt
  | .smbd _ _ => 0
  | .lsrd rt _ _ => rt
  | .mac42 rt _ _ => rt
  | .rord _ _ => 0
  | .mac24 rt _ _ => rt
  | .btstd rt _ => rt
  | .mac22 rt _ _ => rt
  | .mac21 rt _ _ => rt
  | .asrd rt _ _ => rt
  | .mac18 rt _ => rt
  | .mac14 rt _ _ => rt
  | .mac12 rt _ _ => rt
  | .mac11 rt _ _ => rt
  | .acsg8 rt _ => rt
  | .acsg4 rt _ _ => rt
  | .acsg2 rt _ _ => rt
  | .acsg1 rt _ _ => rt
  | .move9aX _ _ _ _ _ => 0
  | .move9aY _ _ => 0
  | .move9bR _ _ _ => 0
  | .move9bY _ _ => 0
  | .move9dRC _ _ _ _ => 0
  | .rti _ => 0

/-- What the D field of the slot holds: a register number or the accumulator number (R163); 0 where the operation
names no such operand (R162: the field is ignored). -/
def Instr.fieldD : Instr → BitVec 5
  | .nop => 0
  | .nopHi => 0
  | .clrd rd => rd
  | .asx2 _ _ rd => rd
  | .addd _ _ rd => rd
  | .asxs _ _ rd => rd
  | .subd _ _ rd => rd
  | .asxs2 _ _ rd => rd
  | .adcd _ _ rd => rd
  | .a4 _ _ rd => rd
  | .sbcd _ _ rd => rd
  | .a8 _ _ rd => rd
  | .addld _ _ rd => rd
  | .s4 _ _ rd => rd
  | .trs16 _ rd => rd
  | .s8 _ _ rd => rd
  | .fasx _ _ rd => rd
  | .ra4 _ _ rd => rd
  | .fasxs _ _ rd => rd
  | .ra8 _ _ rd => rd
  | .fax _ _ rd => rd
  | .sga4 _ _ rd => rd
  | .fsx _ _ rd => rd
  | .sga8 _ _ rd => rd
  | .trs17 _ rd => rd
  | .a8s _ _ rd => rd
  | .trs18 _ _ rd => rd
  | .ms2 _ _ rd => rd
  | .trs19 _ rd => rd
  | .ms4 _ _ rd => rd
  | .fsa _ _ rd => rd
  | .ms8 _ _ rd => rd
  | .trs0 _ rd => rd
  | .s8s _ _ rd => rd
  | .trs1 _ _ rd => rd
  | .negde _ rd => rd
  | .trs2 _ _ rd => rd
  | .allft41 _ rd => rd
  | .trs3 _ _ rd => rd
  | .allft22 _ rd => rd
  | .trs4 _ rd => rd
  | .all4 _ _ rd => rd
  | .trs5 _ rd => rd
  | .all2 _ _ rd => rd
  | .trs6 _ rd => rd
  | .al4 _ _ rd => rd
  | .trs7 _ rd => rd
  | .al2 _ _ rd => rd
  | .trs8 _ rd => rd
  | .norvd _ rd => rd
  | .trs9 _ rd => rd
  | .a81 _ rd => rd
  | .trs10 _ rd => rd
  | .a42 _ rd => rd
  | .trs11 _ _ rd => rd
  | .a24 _ rd => rd
  | .trs12 _ _ rd => rd
  | .bf4 _ _ rd => rd
  | .trs13 _ _ rd => rd
  | .bif4 _ _ rd => rd
  | .trs14 _ _ rd => rd
  | .axj4 _ _ rd => rd
  | .trs15 _ rd => rd
  | .sxj4 _ _ rd => rd
  | .cmpn4 _ _ rd => rd
  | .cmpn8 _ _ rd => rd
  | .andd _ _ rd => rd
  | .cmpz4 _ _ rd => rd
  | .andcd _ _ rd => rd
  | .cmpz8 _ _ rd => rd
  | .andid _ _ rd => rd
  | .cmpnl2 _ _ rd => rd
  | .insd _ _ rd => rd
  | .cmpnl4 _ _ rd => rd
  | .ord _ _ rd => rd
  | .cmpzl2 _ _ rd => rd
  | .orcd _ _ rd => rd
  | .cmpzl4 _ _ rd => rd
  | .orid _ _ rd => rd
  | .max4 _ _ rd => rd
  | .eord _ _ rd => rd
  | .max8 _ _ rd => rd
  | .notd _ rd => rd
  | .min4 _ _ rd => rd
  | .trd _ rd => rd
  | .min8 _ _ rd => rd
  | .maxl2 _ _ rd => rd
  | .pdnxl _ rd => rd
  | .maxl4 _ _ rd => rd
  | .pdnde _ rd => rd
  | .minl2 _ _ rd => rd
  | .pdnd _ rd => rd
  | .minl4 _ _ rd => rd
  | .nopB => 0
  | .nopBHi => 0
  | .nopBMid => 0
  | .mfx _ _ rd => rd
  | .fm2 _ _ rd => rd
  | .mfxc _ _ rd => rd
  | .fms2 _ _ rd => rd
  | .mfx2 _ _ rd => rd
  | .mfxc2 _ _ rd => rd
  | .trs16B _ rd => rd
  | .mf4 _ _ rd => rd
  | .mf8 _ _ rd => rd
  | .trs17B _ rd => rd
  | .ml2 _ _ rd => rd
  | .trs18B _ _ rd => rd
  | .uml _ _ rd => rd
  | .trs19B _ rd => rd
  | .uml2 _ _ rd => rd
  | .mfa81 _ _ rd => rd
  | .trs0B _ rd => rd
  | .mfa41 _ _ rd => rd
  | .trs1B _ _ rd => rd
  | .mfa42 _ _ rd => rd
  | .trs2B _ _ rd => rd
  | .mfa21 _ _ rd => rd
  | .trs3B _ _ rd => rd
  | .mfa22 _ _ rd => rd
  | .trs4B _ rd => rd
  | .mfa24 _ _ rd => rd
  | .trs5B _ rd => rd
  | .m4 _ _ rd => rd
  | .trs6B _ rd => rd
  | .m2 _ _ rd => rd
  | .trs7B _ rd => rd
  | .trs8B _ rd => rd
  | .trs9B _ rd => rd
  | .lsldi _ _ rd => rd
  | .trs10B _ rd => rd
  | .lslxl _ _ rd => rd
  | .trs11B _ _ rd => rd
  | .trs12B _ _ rd => rd
  | .asldi _ _ rd => rd
  | .trs13B _ _ rd => rd
  | .aslxl _ _ rd => rd
  | .trs14B _ _ rd => rd
  | .trdB _ rd => rd
  | .trs15B _ rd => rd
  | .lsld _ _ rd => rd
  | .macx _ _ n => n
  | .rold _ rd => rd
  | .macx2 _ _ n => n
  | .macxc _ _ n => n
  | .asld _ _ rd => rd
  | .macxc2 _ _ n => n
  | .asrde _ _ rd => rd
  | .mac41 _ _ n => n
  | .mac81 _ _ n => n
  | .btstdi _ _ => 0
  | .macxb4 _ _ n => n
  | .lsrdi _ _ rd => rd
  | .macl2 _ _ n => n
  | .lsrxl _ _ rd => rd
  | .clrac _ => 0
  | .ldac _ rd => rd
  | .asrdi _ _ rd => rd
  | .ldacd _ rd => rd
  | .asrxl _ _ rd => rd
  | .stac _ _ => 0
  | .stacd _ _ => 0
  | .smbd _ rd => rd
  | .lsrd _ _ rd => rd
  | .mac42 _ _ n => n
  | .rord _ rd => rd
  | .mac24 _ _ n => n
  | .btstd _ _ => 0
  | .mac22 _ _ n => n
  | .mac21 _ _ n => n
  | .asrd _ _ rd => rd
  | .mac18 _ _ => 0
  | .mac14 _ _ n => n
  | .mac12 _ _ n => n
  | .mac11 _ _ n => n
  | .acsg8 _ _ => 0
  | .acsg4 _ _ n => n
  | .acsg2 _ _ n => n
  | .acsg1 _ _ n => n
  | .move9aX _ _ _ _ _ => 0
  | .move9aY _ _ => 0
  | .move9bR _ _ _ => 0
  | .move9bY _ _ => 0
  | .move9dRC _ _ _ _ => 0
  | .rti _ => 0

/-- What the S field of the slot holds: a register number; 0 where the operation
names no such operand (R162: the field is ignored). -/
def Instr.fieldS : Instr → BitVec 5
  | .nop => 0
  | .nopHi => 0
  | .clrd _ => 0
  | .asx2 _ rs _ => rs
  | .addd _ rs _ => rs
  | .asxs _ rs _ => rs
  | .subd _ rs _ => rs
  | .asxs2 _ rs _ => rs
  | .adcd _ rs _ => rs
  | .a4 _ rs _ => rs
  | .sbcd _ rs _ => rs
  | .a8 _ rs _ => rs
  | .addld _ rs _ => rs
  | .s4 _ rs _ => rs
  | .trs16 rs _ => rs
  | .s8 _ rs _ => rs
  | .fasx _ rs _ => rs
  | .ra4 _ rs _ => rs
  | .fasxs _ rs _ => rs
  | .ra8 _ rs _ => rs
  | .fax _ rs _ => rs
  | .sga4 _ rs _ => rs
  | .fsx _ rs _ => rs
  | .sga8 _ rs _ => rs
  | .trs17 rs _ => rs
  | .a8s _ rs _ => rs
  | .trs18 _ rs _ => rs
  | .ms2 _ rs _ => rs
  | .trs19 rs _ => rs
  | .ms4 _ rs _ => rs
  | .fsa _ rs _ => rs
  | .ms8 _ rs _ => rs
  | .trs0 rs _ => rs
  | .s8s _ rs _ => rs
  | .trs1 _ rs _ => rs
  | .negde rs _ => rs
  | .trs2 _ rs _ => rs
  | .allft41 rs _ => rs
  | .trs3 _ rs _ => rs
  | .allft22 rs _ => rs
  | .trs4 rs _ => rs
  | .all4 _ rs _ => rs
  | .trs5 rs _ => rs
  | .all2 _ rs _ => rs
  | .trs6 rs _ => rs
  | .al4 _ rs _ => rs
  | .trs7 rs _ => rs
  | .al2 _ rs _ => rs
  | .trs8 rs _ => rs
  | .norvd rs _ => rs
  | .trs9 rs _ => rs
  | .a81 rs _ => rs
  | .trs10 rs _ => rs
  | .a42 rs _ => rs
  | .trs11 _ rs _ => rs
  | .a24 rs _ => rs
  | .trs12 _ rs _ => rs
  | .bf4 _ rs _ => rs
  | .trs13 _ rs _ => rs
  | .bif4 _ rs _ => rs
  | .trs14 _ rs _ => rs
  | .axj4 _ rs _ => rs
  | .trs15 rs _ => rs
  | .sxj4 _ rs _ => rs
  | .cmpn4 _ rs _ => rs
  | .cmpn8 _ rs _ => rs
  | .andd _ rs _ => rs
  | .cmpz4 _ rs _ => rs
  | .andcd _ rs _ => rs
  | .cmpz8 _ rs _ => rs
  | .andid _ rs _ => rs
  | .cmpnl2 _ rs _ => rs
  | .insd _ rs _ => rs
  | .cmpnl4 _ rs _ => rs
  | .ord _ rs _ => rs
  | .cmpzl2 _ rs _ => rs
  | .orcd _ rs _ => rs
  | .cmpzl4 _ rs _ => rs
  | .orid _ rs _ => rs
  | .max4 _ rs _ => rs
  | .eord _ rs _ => rs
  | .max8 _ rs _ => rs
  | .notd rs _ => rs
  | .min4 _ rs _ => rs
  | .trd rs _ => rs
  | .min8 _ rs _ => rs
  | .maxl2 _ rs _ => rs
  | .pdnxl rs _ => rs
  | .maxl4 _ rs _ => rs
  | .pdnde rs _ => rs
  | .minl2 _ rs _ => rs
  | .pdnd rs _ => rs
  | .minl4 _ rs _ => rs
  | .nopB => 0
  | .nopBHi => 0
  | .nopBMid => 0
  | .mfx _ rs _ => rs
  | .fm2 _ rs _ => rs
  | .mfxc _ rs _ => rs
  | .fms2 _ rs _ => rs
  | .mfx2 _ rs _ => rs
  | .mfxc2 _ rs _ => rs
  | .trs16B rs _ => rs
  | .mf4 _ rs _ => rs
  | .mf8 _ rs _ => rs
  | .trs17B rs _ => rs
  | .ml2 _ rs _ => rs
  | .trs18B _ rs _ => rs
  | .uml _ rs _ => rs
  | .trs19B rs _ => rs
  | .uml2 _ rs _ => rs
  | .mfa81 _ rs _ => rs
  | .trs0B rs _ => rs
  | .mfa41 _ rs _ => rs
  | .trs1B _ rs _ => rs
  | .mfa42 _ rs _ => rs
  | .trs2B _ rs _ => rs
  | .mfa21 _ rs _ => rs
  | .trs3B _ rs _ => rs
  | .mfa22 _ rs _ => rs
  | .trs4B rs _ => rs
  | .mfa24 _ rs _ => rs
  | .trs5B rs _ => rs
  | .m4 _ rs _ => rs
  | .trs6B rs _ => rs
  | .m2 _ rs _ => rs
  | .trs7B rs _ => rs
  | .trs8B rs _ => rs
  | .trs9B rs _ => rs
  | .lsldi _ rs _ => rs
  | .trs10B rs _ => rs
  | .lslxl _ rs _ => rs
  | .trs11B _ rs _ => rs
  | .trs12B _ rs _ => rs
  | .asldi _ rs _ => rs
  | .trs13B _ rs _ => rs
  | .aslxl _ rs _ => rs
  | .trs14B _ rs _ => rs
  | .trdB rs _ => rs
  | .trs15B rs _ => rs
  | .lsld _ rs _ => rs
  | .macx _ rs _ => rs
  | .rold rs _ => rs
  | .macx2 _ rs _ => rs
  | .macxc _ rs _ => rs
  | .asld _ rs _ => rs
  | .macxc2 _ rs _ => rs
  | .asrde _ rs _ => rs
  | .mac41 _ rs _ => rs
  | .mac81 _ rs _ => rs
  | .btstdi _ rs => rs
  | .macxb4 _ rs _ => rs
  | .lsrdi _ rs _ => rs
  | .macl2 _ rs _ => rs
  | .lsrxl _ rs _ => rs
  | .clrac _ => 0
  | .ldac _ _ => 0
  | .asrdi _ rs _ => rs
  | .ldacd _ _ => 0
  | .asrxl _ rs _ => rs
  | .stac _ rs => rs
  | .stacd _ rs => rs
  | .smbd rs _ => rs
  | .lsrd _ rs _ => rs
  | .mac42 _ rs _ => rs
  | .rord rs _ => rs
  | .mac24 _ rs _ => rs
  | .btstd _ rs => rs
  | .mac22 _ rs _ => rs
  | .mac21 _ rs _ => rs
  | .asrd _ rs _ => rs
  | .mac18 _ rs => rs
  | .mac14 _ rs _ => rs
  | .mac12 _ rs _ => rs
  | .mac11 _ rs _ => rs
  | .acsg8 _ rs => rs
  | .acsg4 _ rs _ => rs
  | .acsg2 _ rs _ => rs
  | .acsg1 _ rs _ => rs
  | .move9aX _ _ _ _ _ => 0
  | .move9aY _ _ => 0
  | .move9bR _ _ _ => 0
  | .move9bY _ _ => 0
  | .move9dRC _ _ _ _ => 0
  | .rti _ => 0

/-- The subset bits (sc, sx) of a control register (R150). -/
def CReg.subset : CReg → Bool × Bool
  | .a _ => (false, false)
  | .i _ => (false, false)
  | .m _ => (false, false)
  | .ptrT => (false, false)
  | .it => (false, false)
  | .mt => (false, false)
  | .dt => (false, false)
  | .ivar => (false, false)
  | .x _ => (false, true)
  | .ac _ => (true, true)
  | _ => (true, false)

/-- The RC code of a control register in its subset (R151..R154). -/
def CReg.code : CReg → BitVec 5
  | .a n => 0b00#2 ++ n
  | .i n => 0b01#2 ++ n
  | .m n => 0b10#2 ++ n
  | .ptrT => 0b11000#5
  | .it => 0b11001#5
  | .mt => 0b11010#5
  | .dt => 0b11011#5
  | .ivar => 0b11111#5
  | .x k => k
  | .dcsr => 0b00000#5
  | .sr => 0b00001#5
  | .idr => 0b00010#5
  | .efr => 0b00011#5
  | .irqr => 0b00100#5
  | .imaskr => 0b00101#5
  | .tmr => 0b00110#5
  | .arbr => 0b00111#5
  | .pc => 0b01000#5
  | .ss => 0b01001#5
  | .la => 0b01010#5
  | .csl => 0b01011#5
  | .lc => 0b01100#5
  | .csh => 0b01101#5
  | .sp => 0b01110#5
  | .sar n => if n = 0 then 0b01111#5 else 0b10#2 ++ n
  | .cntr => 0b10000#5
  | .pdnr => 0b11000#5
  | .ccr => 0b11001#5
  | .sfr => 0b11010#5
  | .ac n => 0b0#1 ++ n

/-- One bit as a field. -/
def flag (b : Bool) : BitVec 1 := BitVec.ofBool b

/-- W1 of a two-word instruction: T1 D1 S1 M, the five bits W1[15:11], 1111, OP1 (R158..R160). -/
def wordOne (op1 op2 : Instr) (mid : BitVec 5) : Word :=
  op1.fieldT ++ op1.fieldD ++ op1.fieldS ++ op2.code.extractLsb' 6 1 ++ mid ++ 0b1111#4 ++ op1.code

/-- W2 of a two-word instruction: T2 D2 S2, the nine bits W2[16:8], OP3, OP2 (R158..R160). -/
def wordTwo (op2 : Instr) (mid : BitVec 9) (op3 : BitVec 2) : Word :=
  op2.fieldT ++ op2.fieldD ++ op2.fieldS ++ mid ++ op3 ++ op2.code.extractLsb' 0 6

/-- The encoder: the two words of an instruction; RTI has one, its second is 0 here. -/
def encode (opRts : BitVec 7) : Bundle → Word × Word
  | .f9a op1 op2 r u aT mode a de =>
    (wordOne op1 op2 (r ++ flag u), wordTwo op2 (aT ++ mode ++ a ++ flag de) 0b00#2)
  | .f9b op1 op2 rs aT rd l u => (wordOne op1 op2 rs, wordTwo op2 (aT ++ rd ++ flag l ++ flag u) 0b01#2)
  | .f9d op1 op2 rr rc l de =>
    (wordOne op1 op2 rr,
      wordTwo op2 (flag rc.subset.2 ++ flag l ++ rc.code ++ flag rc.subset.1 ++ flag de) 0b11#2)
  | .rti cc => (cc ++ 0b0#1 ++ 0#16 ++ 0b0011#4 ++ opRts, 0)

/-! The host's question about one opcode-table row. -/

/-- The part by which a whole instruction is told apart in the opcode table: an operation other than the plain NOP if a
slot holds one, else the RTI or the move; a word pair all of whose operand fields are zero is the NOP row's. It picks
one part for a report and has no part in execution: the machine runs every part of the bundle. -/
def Bundle.salient : Bundle → Instr
  | .f9a op1 op2 r u aT mode a de =>
    if op1 ≠ .nop then op1 else if op2 ≠ .nopB then op2
    else if r = 0 ∧ mode = 0 ∧ a = 0 ∧ de = false then
      (if aT = 0 ∧ u = false then .nop else .move9aY aT u)
    else .move9aX r u mode a de
  | .f9b op1 op2 rs aT rd l u =>
    if op1 ≠ .nop then op1 else if op2 ≠ .nopB then op2
    else if rs = 0 ∧ rd = 0 ∧ l = false ∧ (aT ≠ 0 ∨ u = true) then .move9bY aT u else .move9bR rs rd l
  | .f9d op1 op2 rr rc l de =>
    if op1 ≠ .nop then op1 else if op2 ≠ .nopB then op2 else .move9dRC rr rc l de
  | .rti cc => .rti cc

/-- The instruction the decoder reads from the bits of an opcode-table row (bit 0 = bit 0 of W1, W2 from bit 32), under
the configuration of the machine after reset; one part of the decoded bundle, `Bundle.salient`. -/
def decodeTableWord (nbits w : Nat) : Option Instr :=
  let v := BitVec.ofNat 64 (w % 2 ^ nbits)
  match decode Machine.resetConfig.opRts (v.extractLsb' 0 32) (v.extractLsb' 32 32) with
  | .ok b => some b.salient
  | .error _ => none

end Sys2Proof
end

