-- ==== Sys2Proof/Machine/Lanes.lean ====
section
/-! DEFINITION. The pseudocode primitives of 00_scope.md section 6: parts of a register value, packing, signed and
unsigned readings, wrap, saturation, rounding. A lane list is written most significant first, as in the source. -/

namespace Sys2Proof.Machine

/-- `h(V,i)`: the 16-bit part i (R11). -/
def hp {n : Nat} (v : BitVec n) (i : Nat) : Half := v.extractLsb' (16 * i) 16
/-- `w(V,i)`: the 32-bit part i. -/
def wp {n : Nat} (v : BitVec n) (i : Nat) : Word := v.extractLsb' (32 * i) 32
/-- `b(V,i)`: byte i. -/
def bp {n : Nat} (v : BitVec n) (i : Nat) : BitVec 8 := v.extractLsb' (8 * i) 8

/-- `s16(h(V,i))`: the signed value of the 16-bit part i. -/
def sh {n : Nat} (v : BitVec n) (i : Nat) : Int := (hp v i).toInt
/-- `s32(w(V,i))`: the signed value of the 32-bit part i. -/
def sw {n : Nat} (v : BitVec n) (i : Nat) : Int := (wp v i).toInt

/-- Two halfwords in a word, the first upper. -/
def two16 (x1 x0 : Half) : Word := x1 ++ x0
/-- Four halfwords in 64 bits, most significant first. -/
def four16 (x3 x2 x1 x0 : Half) : Dbl := x3 ++ x2 ++ x1 ++ x0
/-- Eight halfwords in 128 bits, most significant first. -/
def eight16 (x7 x6 x5 x4 x3 x2 x1 x0 : Half) : Quad := x7 ++ x6 ++ x5 ++ x4 ++ x3 ++ x2 ++ x1 ++ x0
/-- Two words in 64 bits, the first upper. -/
def two32 (x1 x0 : Word) : Dbl := x1 ++ x0
/-- Four words in 128 bits, most significant first. -/
def four32 (x3 x2 x1 x0 : Word) : Quad := x3 ++ x2 ++ x1 ++ x0
/-- Two doublewords in 128 bits, the first upper. -/
def two64 (x1 x0 : Dbl) : Quad := x1 ++ x0
/-- Eight bytes in 64 bits, most significant first. -/
def eight8 (x7 x6 x5 x4 x3 x2 x1 x0 : BitVec 8) : Dbl := x7 ++ x6 ++ x5 ++ x4 ++ x3 ++ x2 ++ x1 ++ x0

/-- Two halfwords from a rule for part i. -/
def map2h (f : Nat → Half) : Word := two16 (f 1) (f 0)
/-- Four halfwords from a rule for part i. -/
def map4h (f : Nat → Half) : Dbl := four16 (f 3) (f 2) (f 1) (f 0)
/-- Eight halfwords from a rule for part i. -/
def map8h (f : Nat → Half) : Quad := eight16 (f 7) (f 6) (f 5) (f 4) (f 3) (f 2) (f 1) (f 0)
/-- Two words from a rule for part i. -/
def map2w (f : Nat → Word) : Dbl := two32 (f 1) (f 0)
/-- Four words from a rule for part i. -/
def map4w (f : Nat → Word) : Quad := four32 (f 3) (f 2) (f 1) (f 0)
/-- Eight bytes from a rule for byte i. -/
def map8b (f : Nat → BitVec 8) : Dbl := eight8 (f 7) (f 6) (f 5) (f 4) (f 3) (f 2) (f 1) (f 0)

/-- `wrap_N(x)`. -/
def wrap (n : Nat) (x : Int) : BitVec n := BitVec.ofInt n x
/-- x clamped to lo .. hi. -/
def clamp (lo hi x : Int) : Int := if x < lo then lo else if hi < x then hi else x
/-- `sat_sN(x)`. -/
def satS (n : Nat) (x : Int) : BitVec n := BitVec.ofInt n (clamp (-(2 ^ (n - 1))) (2 ^ (n - 1) - 1) x)
/-- `sat_uN(x)`. -/
def satU (n : Nat) (x : Int) : BitVec n := BitVec.ofInt n (clamp 0 (2 ^ n - 1) x)
/-- `narrow_sN(x)`: saturating in saturation mode, wrapping otherwise (R15). -/
def narrow (n : Nat) (sat : Bool) (x : Int) : BitVec n := if sat then satS n x else wrap n x

/-- Round to nearest, ties to even (R16), the default of `CFG.RND`: x / 2^k, k at least 1, to the nearest integer, a
tie to the even neighbour. -/
def rnd (x : Int) (k : Nat) : Int :=
  let q := x / 2 ^ k
  let r := x % 2 ^ k
  if 2 * r > 2 ^ k ∨ (2 * r = 2 ^ k ∧ q % 2 = 1) then q + 1 else q

/-- `rnd(x,k)` by `CFG.RND` (R16; 92_eei_decisions.md D12): the default, or a replacement that nothing constrains. -/
def roundBy (r : Rounding) (x : Int) (k : Nat) : Int :=
  match r with
  | .nearestEven => rnd x k
  | .other => Config.rndOther x k

/-- `x >> k` on an exact integer: floor division by 2^k (R17). -/
def shrInt (x : Int) (k : Nat) : Int := x / 2 ^ k

/-- The exact product of two Q15 numbers (43_mul_fixed.md R246). -/
def fprod (t s : Half) : Int := t.toInt * s.toInt
/-- A Q30 value aligned to Q31 and rounded to 16 bits: the low 15 bits of the product are rounded away (R246; the
alignment is the spec's reading of "дробные", 93_implementation_defined.md section 5). -/
def fround (r : Rounding) (p : Int) : Int := roundBy r p 15
/-- `fmul16(t,s)` (R246). -/
def fmul16 (r : Rounding) (sat : Bool) (t s : Half) : Half := narrow 16 sat (fround r (fprod t s))
/-- `fsum16(P)` (R246). -/
def fsum16 (r : Rounding) (p : Int) : Half := wrap 16 (fround r p)

/-- The narrowing helpers of 49_trs.md R440. -/
def fr8 (r : Rounding) (x : Int) : BitVec 8 := satS 8 (roundBy r x 8)
/-- 32 to 16 bits, fractional (R440). -/
def fr16 (r : Rounding) (x : Int) : Half := satS 16 (roundBy r x 16)
/-- 16 to 8 bits, integer (R440). -/
def int8 (x : Int) : BitVec 8 := satS 8 x
/-- 32 to 16 bits, integer (R440). -/
def int16 (x : Int) : Half := satS 16 x
/-- 16 to 8 bits, unsigned result (R440). -/
def uns8 (x : Int) : BitVec 8 := satU 8 x
/-- 32 to 16 bits, unsigned result (R440). -/
def uns16 (x : Int) : Half := satU 16 x

/-- The number of 1 bits among the low n. -/
def popcount {w : Nat} (v : BitVec w) : Nat → Nat
  | 0 => 0
  | n + 1 => popcount v n + (if v.getLsbD n then 1 else 0)

/-- The position of the lowest 1 bit at or above `from`, looking at `n` bits. -/
def firstSet {w : Nat} (v : BitVec w) : Nat → Nat → Nat
  | 0, start => start
  | n + 1, start => if v.getLsbD start then start else firstSet v n (start + 1)

/-- `onehot(v)` (44_mac.md section 2): the one set bit of a 16-bit selector; `none` unless exactly one is set. -/
def onehot (v : Half) : Option Nat := if popcount v 16 = 1 then some (firstSet v 16 0) else none

end Sys2Proof.Machine
end

