-- ==== Sys2Proof/Machine/State.lean ====
section
/-! DEFINITION. The state of the cluster: two cores, the shared memory, XBUF, the cluster registers, and what stands
for the environment (spec 10_state.md, all rules; 60_exceptions.md R484). Plain data throughout. The faults and
refusals, and the state after reset (10_state.md R71, 70_reset_and_hazards.md R521). -/

namespace Sys2Proof.Machine

/-- A word that a core has written to far memory and that has not landed (20_memory.md R109). -/
structure FarWrite where
  /-- DSP word address. -/
  addr : Half
  val : Word
  /-- It was pending when the interrupt now in service was accepted (60_exceptions.md R496). -/
  old : Bool
  deriving DecidableEq, Repr

/-- What the hazard rules need of one executed instruction (70_reset_and_hazards.md R535). -/
structure Trace where
  /-- Address registers written, bit n for A[n]. -/
  addrRegs : BitVec 8
  /-- 16-bit RF registers written by a move, bit n for R[n]. -/
  byMove : BitVec 32
  /-- 16-bit RF registers written by a compute operation, bit n for R[n]. -/
  byCompute : BitVec 32
  /-- It changed SR[11] (YM). -/
  ymChanged : Bool
  deriving DecidableEq, Repr

/-- A place in PRAM where the base instruction set's own encoding stands for a statement this spec gives a meaning
(the encodings are not in the source; R203, R213). -/
structure BaseEntry where
  addr : Half
  wide : Bool
  stmt : Stmt
  deriving DecidableEq, Repr

/-- One ELcore-30M core (10_state.md R21 and sections 2 to 6, 8). -/
structure Core where
  /-- RF: sixteen 128-bit rows (R22). -/
  rows : Vector Quad 16
  /-- AC0..AC15 (R28). -/
  acc : Vector Word 16
  /-- A0..A7 (R31). -/
  a : Vector Word 8
  /-- AT (R32). -/
  ptrT : Word
  /-- I0..I7 (R33). -/
  i : Vector Half 8
  it : Half
  dt : Half
  /-- M0..M7 (R34). -/
  m : Vector Half 8
  mt : Half
  /-- IVAR (R36). -/
  ivar : Half
  /-- PC (R37). -/
  pc : Half
  /-- SS, LA, CSL, LC, CSH, SP (R38): storage only. -/
  ss : Half
  la : Half
  csl : Half
  lc : Half
  csh : Half
  sp : Half
  /-- SAR, SAR1..SAR7 (R39). -/
  sars : Vector Half 8
  /-- CNTR (R39): storage only (R487). -/
  cntr : Half
  /-- DCSR (R40). -/
  dcsr : Half
  /-- SR (R44..R46). -/
  sr : Half
  /-- CCR (R48): C and V at `Config.ccrC`, `Config.ccrV`, the other bits opaque. -/
  ccr : Half
  /-- Values a move or the CPU has read from CCR, which may be written back (40_moves.md R194). -/
  ccrSeen : List Half
  /-- PDNR (R49). -/
  pdnr : Half
  /-- IRQR (R52). -/
  irqr : Word
  /-- IMASKR (R53). -/
  imaskr : Word
  /-- TMR (R54). -/
  tmr : Word
  /-- ARBR (R55): timing only. -/
  arbr : Half
  /-- SFR (R58): storage only. -/
  sfr : Word
  /-- dbDCSR (R59). -/
  dbDcsr : Half
  /-- dbSAR, dbSAR1..dbSAR7 (R60). -/
  dbSars : Vector Half 8
  /-- dbCNTR (R61): storage only. -/
  dbCntr : Half
  /-- Cnt_RUN (R62): the last value read since the start. -/
  cntRun : Word
  /-- dbPCe, a, f, d, e1, e2, e3 (R63): the last values read. -/
  dbPc : Vector Half 7
  /-- in_isr (R68, 60_exceptions.md R472). -/
  inIsr : Bool
  /-- The abstract PC stack, top first (R68, R220). -/
  pcstack : List Half
  /-- A stack error has happened: the core executes no further (R220). -/
  stackErr : Bool
  /-- CFG.SAT of the core (00_scope.md R15). -/
  sat : Bool
  /-- CFG.SCALE of the core (R17). -/
  scale : BitVec 2
  /-- CFG.scaled: the PRAM addresses of the instruction instances that carry the scaling modifier (R17). -/
  scaledAt : List Half
  /-- The service bit E (45_shifter64.md R332). -/
  eBit : Bool
  /-- Pending far writes, oldest first (20_memory.md R109). -/
  farq : List FarWrite
  /-- The instruction held in a synchronous-mode XBUF access (R117, R118). -/
  held : Option Insn
  /-- The address of the last SAR stop, until an instruction executes (60_exceptions.md R487). -/
  bpAt : Option Half
  /-- The same for a dbSAR stop (R486). -/
  dbBpAt : Option Half
  /-- The last executed instructions, newest first (R535). -/
  hist : List Trace
  /-- Addresses that hold a base-set statement (R203). -/
  baseCode : List BaseEntry
  deriving DecidableEq, Repr

/-- One atomic action: a step of a core, or an action of the environment (60_exceptions.md R484, R497). -/
inductive Event where
  /-- A step of core c; `take` = a possible interrupt acceptance is taken (R470: it may be left for later). -/
  | core (c : CoreId) (take : Bool)
  /-- The oldest pending far write of core c lands (20_memory.md R109). -/
  | drain (c : CoreId)
  /-- A 32-bit read by the CPU (or another bus master) at a byte address. -/
  | cpuRead (addr : Word)
  /-- A 32-bit write by the CPU (or another bus master) at a byte address. -/
  | cpuWrite (addr : Word) (v : Word)
  /-- A byte or halfword access by the CPU (R101). -/
  | cpuNarrow (addr : Word)
  /-- A 64-bit DMA read of XYRAM or PRAM (R97). -/
  | dmaRead (addr : Word)
  /-- A 64-bit DMA write of XYRAM or PRAM (R97). -/
  | dmaWrite (addr : Word) (v : Dbl)
  /-- DMA request DRQk to core c (R477). -/
  | dmaRequest (c : CoreId) (k : BitVec 2)
  /-- The timer of core c requests an interrupt (R485). -/
  | timer (c : CoreId)
  /-- The clock switches take these positions (R492). -/
  | clock (en0 en1 : Bool)
  deriving DecidableEq, Repr

/-- The whole cluster. -/
structure State where
  /-- The open parameters (00_scope.md R9); no step changes them. -/
  cfg : Config
  core0 : Core
  core1 : Core
  /-- XYRAM and both PRAMs, by CPU byte address (20_memory.md R91..R94), in canonical form. -/
  mem : List Host.Cell
  /-- X0..X31 (R67). -/
  xbuf : Vector Dbl 32
  /-- EFR (R50). -/
  efr : Word
  /-- MASKR_DSP (R64). -/
  maskr : Word
  /-- CSR_DSP (R66): bit 1 = SYNWORK; SYNSTART is an event. -/
  csr : Word
  /-- clk_en[0], clk_en[1] (60_exceptions.md R492). -/
  clk0 : Bool
  clk1 : Bool
  /-- The core whose turn it is: the one `exec` acts on. -/
  turn : CoreId
  /-- The coming actions, in order; when it is empty the cores step (see Step.lean). -/
  sched : List Event
  /-- What the last CPU or DMA read returned. -/
  busData : Dbl
  /-- StartDMA(k) events emitted so far, oldest first (R476). -/
  dmaStarts : List (BitVec 2)
  /-- The number of free values drawn so far (the model's own counter). -/
  free : Nat
  deriving DecidableEq, Repr

/-- A trap that stops the machine. There is none: the source describes no synchronous exception (00_scope.md R14,
60_exceptions.md R465), and 93_implementation_defined.md says that a fault is never used; nothing raises one. Safe. -/
inductive Fault where
  deriving DecidableEq, Repr

/-- Where the spec gives no behaviour (`REFUSE`). -/
inductive Refusal where
  /-- An instruction the model gives no meaning yet; raised by an arm of `exec` only; safe. -/
  | notModelled (mnemonic : String)
  /-- Words of the base formats, whose opcodes are not in the source (30_encoding.md R135). Raised by decode; safe. -/
  | baseFormat
  /-- An empty OP1 or OP2 code, OP3 = 10, an unassigned RC code (R166). Raised by decode; safe. -/
  | reservedCode
  /-- A `.Q` operand or 128-bit move with an odd register (10_state.md R26). Raised by meanings; safe. -/
  | oddQuad
  /-- An accumulator number outside the instruction's list (44_mac.md R275). Raised by meanings; safe. -/
  | accumulatorNumber
  /-- L = 1 where it selects nothing, or a width a move cannot have (40_moves.md R191, R197). Raised by moves; safe. -/
  | widthBit
  /-- An accumulator view that does not exist (10_state.md R29). Raised by moves; safe. -/
  | accumulatorView
  /-- A move to or from PC, SS, LA, CSL, LC, CSH, SP (40_moves.md R194). Raised by moves; safe. -/
  | stackRegister
  /-- A shift amount or bit number above the operand (45_shifter64.md R315, 48_alu64.md R416); safe. -/
  | shiftAmount
  /-- LDAC, LDACD, STAC, STACD with a selector that is not one-hot or out of range (44_mac.md R275..R280); safe. -/
  | selector
  /-- CFG.SCALE = 3 with a scaled instruction other than A81, A42 (00_scope.md R17); safe. -/
  | scaleThree
  /-- An addressing-mode code whose action is Unknown (40_moves.md R183); safe. -/
  | unknownMode
  /-- A data access through a pointer whose bits 31..16 are not zero (10_state.md R35); safe. -/
  | pointerHigh
  /-- A 64- or 128-bit access across a page boundary (20_memory.md R103); safe. -/
  | pageCross
  /-- An access to a core, its memory, or XBUF whose clock is off (20_memory.md R121); safe. -/
  | clockOff
  /-- Two parts of one instruction write the same state (30_encoding.md R174); safe. -/
  | partConflict
  /-- A store and a load of one instruction overlap (40_moves.md R182); safe. -/
  | storeLoadOverlap
  /-- A move writes CCR while a compute operation of the same instruction uses C or V (40_moves.md R201); safe. -/
  | ccrConflict
  /-- A 1 written to a reserved bit (10_state.md R69); safe. -/
  | reservedBit
  /-- A value that was not read from CCR is moved into CCR (40_moves.md R194); safe. -/
  | ccrValue
  /-- RTI with a condition other than "always" (41_control_and_changed_results.md R211); safe. -/
  | rtiCondition
  /-- The core has had a stack error (R220); safe. -/
  | stackError
  /-- AT with modification directly after a change of SR.YM (70_reset_and_hazards.md R532); safe. -/
  | ymHazard
  /-- A jump through An directly after a write of An (R530); safe. -/
  | jumpHazard
  /-- DO too soon after a write of its register (R531); safe. -/
  | doHazard
  /-- Execution with SR.BD = 1 (R534); safe. -/
  | blockingDisabled
  /-- A restart at a breakpoint address that is still armed (60_exceptions.md R487); safe. -/
  | breakpointRestart
  /-- A base-set instruction whose definition is not in the source (41_control_and_changed_results.md R213); safe. -/
  | baseInstruction (mnemonic : String)
  /-- PRAM of a running core written from outside (20_memory.md R112); safe. -/
  | pramRunning
  /-- A byte, halfword or unaligned access by a bus master (20_memory.md R101); safe. -/
  | narrowAccess
  /-- A CPU write to the address of DSTART (60_exceptions.md R476); safe. -/
  | cpuDstart
  /-- An instruction fetch, or an interrupt entry, at a PC above 0x1FFF (10_state.md R37, 70_reset_and_hazards.md R527,
  92_eei_decisions.md D26). Raised by fetch and by interrupt entry; safe. -/
  | pcOutsidePram
  /-- A CPU or DMA access to a reserved address (20_memory.md R91, 92_eei_decisions.md D8). Raised by the bus events;
  safe. -/
  | reservedAddress
  /-- The clock switches in the state (0,1) (60_exceptions.md R492); safe. -/
  | clockOrder
  deriving DecidableEq, Repr

/-- The value of IDR: 0xn108 (10_state.md R47). -/
def idr : CoreId → Half
  | .dsp0 => 0x0108
  | .dsp1 => 0x1108

/-- A core after reset (R71). DESIGN CHOICE (log entry 2): what the source leaves unspecified is 0, except SAR,
SAR1..SAR7 = 0xFFFF (the reset value of their debug twins) and PC = `CFG.PC_RESET`. -/
def Core.reset (cfg : Config) (c : CoreId) : Core where
  rows := Vector.replicate 16 0
  acc := Vector.replicate 16 0
  a := Vector.replicate 8 (match c with | .dsp0 => 0x00000000 | .dsp1 => 0x00008000)
  ptrT := match c with | .dsp0 => 0x00004000 | .dsp1 => 0x0000C000
  i := Vector.replicate 8 0
  it := 0
  dt := 0
  m := Vector.replicate 8 0
  mt := 0
  ivar := 0x1F00
  pc := cfg.pcReset
  ss := 0
  la := 0
  csl := 0
  lc := 0
  csh := 0
  sp := 0
  sars := Vector.replicate 8 0xFFFF
  cntr := 0
  dcsr := 0x0000
  sr := 0
  ccr := 0
  ccrSeen := []
  pdnr := 0
  irqr := 0
  imaskr := 0
  tmr := 0
  arbr := 0x0F01
  sfr := 0
  dbDcsr := 0x0000
  dbSars := Vector.replicate 8 0xFFFF
  dbCntr := 0
  cntRun := 0
  dbPc := Vector.replicate 7 0
  inIsr := false
  pcstack := []
  stackErr := false
  sat := false
  scale := 0
  scaledAt := []
  eBit := false
  farq := []
  held := none
  bpAt := none
  dbBpAt := none
  hist := []
  baseCode := []

/-- The cluster after reset (R71, R521): both cores stopped, all interrupts masked, memory with nothing listed. -/
def State.reset : State where
  cfg := resetConfig
  core0 := Core.reset resetConfig .dsp0
  core1 := Core.reset resetConfig .dsp1
  mem := []
  xbuf := Vector.replicate 32 0
  efr := 0
  maskr := 0
  csr := 0
  clk0 := true
  clk1 := true
  turn := .dsp0
  sched := []
  busData := 0
  dmaStarts := []
  free := 0

end Sys2Proof.Machine
end

