-- ==== Sys2Proof/Machine/Ops.lean ====
section
/-! DEFINITION. The named operations over the state: the register-file and accumulator views (10_state.md R22..R30), the
memory with its canonical form (20_memory.md R91..R111), far writes, the bits of status registers, interrupt
acceptance and entry (60_exceptions.md R468..R473) and the return from it (41_control_and_changed_results.md R211). -/

namespace Sys2Proof.Machine

/-! ### Cores and their bits -/

/-- The core with a given number. -/
def State.core (σ : State) : CoreId → Core
  | .dsp0 => σ.core0
  | .dsp1 => σ.core1

/-- Replace a core. -/
def State.setCore (σ : State) (c : CoreId) (k : Core) : State :=
  match c with
  | .dsp0 => { σ with core0 := k }
  | .dsp1 => { σ with core1 := k }

/-- Change a core. -/
def State.onCore (σ : State) (c : CoreId) (f : Core → Core) : State := σ.setCore c (f (σ.core c))

/-- The core whose turn it is. -/
def State.me (σ : State) : Core := σ.core σ.turn

/-- Change the core whose turn it is. -/
def State.onMe (σ : State) (f : Core → Core) : State := σ.onCore σ.turn f

/-- clk_en[c] (R492). -/
def State.clk (σ : State) : CoreId → Bool
  | .dsp0 => σ.clk0
  | .dsp1 => σ.clk1

/-- A bit vector with bit k set to b. -/
def setBit {n : Nat} (v : BitVec n) (k : Nat) (b : Bool) : BitVec n :=
  if b then v ||| BitVec.ofNat n (2 ^ k) else v &&& ~~~(BitVec.ofNat n (2 ^ k))

/-- DCSR.RUN, bit 14 (R40). -/
def Core.run (k : Core) : Bool := k.dcsr.getLsbD 14
/-- DCSR.WAIT, bit 4 (R40). -/
def Core.wait (k : Core) : Bool := k.dcsr.getLsbD 4
/-- dbDCSR.dbRUN, bit 14 (R59). -/
def Core.dbRun (k : Core) : Bool := k.dbDcsr.getLsbD 14
/-- The core is stopped (R527). -/
def Core.stopped (k : Core) : Bool := !k.run && !k.dbRun
/-- SR.DD, bit 9 (R44). -/
def Core.dd (k : Core) : Bool := k.sr.getLsbD 9
/-- SR.BD, bit 10 (R45). -/
def Core.bd (k : Core) : Bool := k.sr.getLsbD 10
/-- SR.YM, bit 11 (R46). -/
def Core.ym (k : Core) : Bool := k.sr.getLsbD 11
/-- CSR_DSP.SYNWORK, bit 1 (R66). -/
def State.synwork (σ : State) : Bool := σ.csr.getLsbD 1

/-- The defined bits of DCSR: 14 and 4..0 (R40). -/
def dcsrDefined : Half := 0x401F
/-- The defined bits of IRQR: 31..28, 25, 24, 3..0 (R52). -/
def irqrDefined : Word := 0xF300000F
/-- The defined bits of ARBR: 13..8, 5, 4, 2..0 (R55). -/
def arbrDefined : Half := 0x3F37
/-- The defined bits of dbDCSR: 14 and 2 (R59). -/
def dbDcsrDefined : Half := 0x4004
/-- The defined bits of DSTART: 25, 24, 3..0 (R51). -/
def dstartDefined : Word := 0x0300000F
/-- The defined bits of CSR_DSP: 1, 0 (R66). -/
def csrDefined : Word := 0x00000003

/-- A value writes 1 to no bit outside a mask (R69). -/
def within {n : Nat} (defined v : BitVec n) : Bool := (v &&& ~~~defined) == 0

/-! ### Register file: 16 rows of 128 bits (R22..R26) -/

/-- The row of register n: n div 2. -/
def rowOf (n : Reg) : BitVec 4 := n.extractLsb' 1 4
/-- Whether n is odd. -/
def oddReg (n : Reg) : Bool := n.getLsbD 0

/-- ROW[k]. -/
def Core.row (k : Core) (r : BitVec 4) : Quad := k.rows[r.toNat]'r.isLt

/-- Replace ROW[k]. -/
def Core.setRow (k : Core) (r : BitVec 4) (v : Quad) : Core := { k with rows := k.rows.set r.toNat v r.isLt }

/-- `R[n]` (R23). -/
def Core.h (k : Core) (n : Reg) : Half :=
  if oddReg n then (k.row (rowOf n)).extractLsb' 16 16 else (k.row (rowOf n)).extractLsb' 0 16
/-- `R[n].L` (R24). -/
def Core.l (k : Core) (n : Reg) : Word :=
  if oddReg n then (k.row (rowOf n)).extractLsb' 32 32 else (k.row (rowOf n)).extractLsb' 0 32
/-- `R[n].D` (R25). -/
def Core.d (k : Core) (n : Reg) : Dbl :=
  if oddReg n then (k.row (rowOf n)).extractLsb' 64 64 else (k.row (rowOf n)).extractLsb' 0 64
/-- `R[n].Q` for an even n (R26). -/
def Core.q (k : Core) (n : Reg) : Quad := k.row (rowOf n)

/-- Write `R[n]`: only those 16 bits change (R23). -/
def Core.setH (k : Core) (n : Reg) (v : Half) : Core :=
  let r := k.row (rowOf n)
  k.setRow (rowOf n)
    (if oddReg n then r.extractLsb' 32 96 ++ v ++ r.extractLsb' 0 16 else r.extractLsb' 16 112 ++ v)
/-- Write `R[n].L` (R24). -/
def Core.setL (k : Core) (n : Reg) (v : Word) : Core :=
  let r := k.row (rowOf n)
  k.setRow (rowOf n)
    (if oddReg n then r.extractLsb' 64 64 ++ v ++ r.extractLsb' 0 32 else r.extractLsb' 32 96 ++ v)
/-- Write `R[n].D` (R25). -/
def Core.setD (k : Core) (n : Reg) (v : Dbl) : Core :=
  let r := k.row (rowOf n)
  k.setRow (rowOf n) (if oddReg n then v ++ r.extractLsb' 0 64 else r.extractLsb' 64 64 ++ v)
/-- Write `R[n].Q` for an even n (R26). -/
def Core.setQ (k : Core) (n : Reg) (v : Quad) : Core := k.setRow (rowOf n) v

/-! ### Accumulators (R28..R30) -/

/-- `AC[n].L`. -/
def Core.acL (k : Core) (n : BitVec 4) : Word := k.acc[n.toNat]'n.isLt
/-- Write `AC[n].L`. -/
def Core.setAcL (k : Core) (n : BitVec 4) (v : Word) : Core := { k with acc := k.acc.set n.toNat v n.isLt }
/-- `ACC64[n] = {AC[2n+1].L, AC[2n].L}` (R30). -/
def Core.acc64 (k : Core) (n : BitVec 3) : Dbl := k.acL (n ++ 1#1) ++ k.acL (n ++ 0#1)
/-- Write `ACC64[n]`. -/
def Core.setAcc64 (k : Core) (n : BitVec 3) (v : Dbl) : Core :=
  (k.setAcL (n ++ 0#1) (v.extractLsb' 0 32)).setAcL (n ++ 1#1) (v.extractLsb' 32 32)
/-- `AC[n].D` for an even n (R29). -/
def Core.acD (k : Core) (n : BitVec 4) : Dbl := k.acc64 (n.extractLsb' 1 3)
/-- `AC[n].Q` for n a multiple of 4 (R29). -/
def Core.acQ (k : Core) (n : BitVec 4) : Quad :=
  k.acc64 (n.extractLsb' 2 2 ++ 1#1) ++ k.acc64 (n.extractLsb' 2 2 ++ 0#1)

/-! ### Address registers (R31..R36) -/

/-- Write A[n], all 32 bits. -/
def Core.setA (k : Core) (n : BitVec 3) (v : Word) : Core := { k with a := k.a.set n.toNat v n.isLt }
/-- A[n]. -/
def Core.getA (k : Core) (n : BitVec 3) : Word := k.a[n.toNat]'n.isLt
/-- I[n]. -/
def Core.getI (k : Core) (n : BitVec 3) : Half := k.i[n.toNat]'n.isLt

/-- A 16-bit address update: bits 31..16 stay (R35, R188). -/
def lowSum (p : Word) (delta : Half) : Word := p.extractLsb' 16 16 ++ (p.extractLsb' 0 16 + delta)

/-! ### Memory: a list of (address, byte), canonical -/

/-- What an address that is not listed reads as. DESIGN CHOICE (log entry 3): the source gives no contents after
reset. -/
def unlisted : BitVec 8 := 0

/-- The byte at a CPU byte address. -/
def readByte : List Host.Cell → Nat → BitVec 8
  | [], _ => unlisted
  | (x, v) :: rest, a => if x = a then v else readByte rest a

/-- Write one byte: addresses stay strictly rising, and a byte equal to what an unlisted address reads as is not
listed. -/
def writeByte : List Host.Cell → Nat → BitVec 8 → List Host.Cell
  | [], a, v => if v = unlisted then [] else [(a, v)]
  | (x, y) :: rest, a, v =>
    if a < x then (if v = unlisted then (x, y) :: rest else (a, v) :: (x, y) :: rest)
    else if a = x then (if v = unlisted then rest else (a, v) :: rest)
    else (x, y) :: writeByte rest a v

/-- Every address of a list lies above a bound, addresses rise strictly, and no listed byte is `unlisted`. -/
def risingAbove : Option Nat → List Host.Cell → Bool
  | _, [] => true
  | none, (x, v) :: rest => v != unlisted && risingAbove (some x) rest
  | some b, (x, v) :: rest => decide (b < x) && v != unlisted && risingAbove (some x) rest

/-- The canonical form of the memory. -/
def Memory.wf (m : List Host.Cell) : Bool := risingAbove none m

/-- The 32-bit word at a byte address, bits 7..0 in the lowest byte (DESIGN CHOICE, log entry 4: invisible to DSP and
CPU programs, R101). -/
def readWordAt (m : List Host.Cell) (a : Nat) : Word :=
  readByte m (a + 3) ++ readByte m (a + 2) ++ readByte m (a + 1) ++ readByte m a

/-- Write the 32-bit word at a byte address. -/
def writeWordAt (m : List Host.Cell) (a : Nat) (v : Word) : List Host.Cell :=
  writeByte (writeByte (writeByte (writeByte m a (bp v 0)) (a + 1) (bp v 1)) (a + 2) (bp v 2)) (a + 3) (bp v 3)

/-- The CPU byte address of XYRAM word w (R92). -/
def xyAddr (w : Half) : Nat :=
  if w.getLsbD 15 then 0x18800000 + 4 * (w.toNat - 0x8000) else 0x18400000 + 4 * w.toNat

/-- The CPU byte address of PRAM word p of a core (R94). -/
def pramAddr (c : CoreId) (p : Nat) : Nat :=
  match c with
  | .dsp0 => 0x18440000 + 4 * p
  | .dsp1 => 0x18840000 + 4 * p

/-- XYRAM[w]. -/
def State.xy (σ : State) (w : Half) : Word := readWordAt σ.mem (xyAddr w)
/-- Write XYRAM[w]. -/
def State.setXy (σ : State) (w : Half) (v : Word) : State := { σ with mem := writeWordAt σ.mem (xyAddr w) v }
/-- PRAM word p of core c. -/
def State.pram (σ : State) (c : CoreId) (p : Nat) : Word := readWordAt σ.mem (pramAddr c p)
/-- Write PRAM word p of core c; a base-set statement that covers the word goes with it (R203). -/
def State.setPram (σ : State) (c : CoreId) (p : Nat) (v : Word) : State :=
  ({ σ with mem := writeWordAt σ.mem (pramAddr c p) v }).onCore c fun k =>
    { k with baseCode := k.baseCode.filter fun e => e.addr.toNat != p && !(e.wide && e.addr.toNat + 1 == p) }

/-! ### Far memory (R104, R109) -/

/-- Whether a word address lies in the other core's segment (R104). -/
def isFar (c : CoreId) (w : Half) : Bool := w.getLsbD 15 != c.bit

/-- Land a list of far writes in order. -/
def landAll : List FarWrite → State → State
  | [], σ => σ
  | e :: rest, σ => landAll rest (σ.setXy e.addr e.val)

/-- The far writes of core c that were pending when its interrupt was accepted land (R496). -/
def State.landOld (σ : State) (c : CoreId) : State :=
  let k := σ.core c
  (landAll (k.farq.filter (·.old)) σ).onCore c fun k => { k with farq := k.farq.filter fun e => !e.old }

/-- The oldest far write of core c lands (R109). -/
def State.landFirst (σ : State) (c : CoreId) : State :=
  match (σ.core c).farq with
  | [] => σ
  | e :: rest => (σ.setXy e.addr e.val).onCore c fun k => { k with farq := rest }

/-- All far writes of core c land, oldest first. -/
def State.landEvery (σ : State) (c : CoreId) : State :=
  (landAll (σ.core c).farq σ).onCore c fun k => { k with farq := [] }

/-- The state a data read of core `turn` at address w sees: in an interrupt handler a far read comes after the far
writes that were pending at acceptance (R496). -/
def State.viewFor (σ : State) (w : Half) : State :=
  if σ.me.inIsr && isFar σ.turn w then σ.landOld σ.turn else σ

/-- The values of core `turn`'s own pending writes to word w (R109). -/
def State.pendingAt (σ : State) (w : Half) : List Word :=
  (σ.me.farq.filter fun e => e.addr == w).map (·.val)

/-- One word read by core `turn`: the memory value, or, while the core has a pending write to that word, any of the
memory value and the pending values (R109); `draw` numbers the free choice. -/
def State.readOne (σ : State) (w : Half) (draw : Nat) : Word :=
  match σ.pendingAt w with
  | [] => σ.xy w
  | p => (σ.xy w :: p).getD (Config.freeChoice draw % (p.length + 1)) (σ.xy w)

/-- One word written by core `turn`: near memory at once, far memory through the FIFO (R109, R110). -/
def State.writeOne (σ : State) (w : Half) (v : Word) : State :=
  if isFar σ.turn w then σ.onMe fun k => { k with farq := k.farq ++ [{ addr := w, val := v, old := false }] }
  else σ.setXy w v

/-! ### Interrupts and the return from one -/

/-- `raise Interrupt(c, k)` (R468). -/
def State.raise (σ : State) (c : CoreId) (k : Nat) : State :=
  σ.onCore c fun x => { x with irqr := setBit x.irqr k true }

/-- `pending(c)` (R469). -/
def Core.pending (k : Core) : Word := k.irqr &&& k.imaskr

/-- The conditions of R470 that are the core's own. -/
def Core.accepts (k : Core) : Bool := k.pending != 0 && !k.inIsr && k.held.isNone

/-- The bits set in a word, ascending. -/
def bitsOf (v : Word) : List Nat := (List.range 32).filter fun k => v.getLsbD k

/-- The bit the environment picks to clear under CFG.IRQR_AUTOCLEAR: any pending one (R494). -/
def State.pickPending (σ : State) (k : Core) : Nat :=
  let l := bitsOf k.pending
  l.getD (Config.freeChoice (8 * σ.free) % l.length) 0

/-- A stack error: DCSR.SE is set and the core executes no further (R220). -/
def Core.stackFail (k : Core) : Core := { k with dcsr := setBit k.dcsr 1 true, stackErr := true }

/-- RUN goes to 1; a start (neither run bit was set) clears Cnt_RUN (R41, R62). -/
def Core.startRun (k : Core) : Core :=
  { k with dcsr := setBit k.dcsr 14 true, cntRun := if k.run then k.cntRun else 0 }

/-- JSR IVAR: push the pc and go to the handler; a full stack is a stack error (R212, R220). -/
def Core.jsrIvar (depth : Nat) (k : Core) : Core :=
  if k.pcstack.length < depth then
    { k with pcstack := k.pc :: k.pcstack, pc := k.ivar, inIsr := true,
             farq := k.farq.map fun e => { e with old := true } }
  else k.stackFail

/-- TAKING AN INTERRUPT, by the core whose turn it is (R471..R473): RUN goes to 1, under CFG.IRQR_AUTOCLEAR one pending
bit is cleared, the pc is pushed, the pc becomes IVAR, in_isr is set; nothing else is saved and no mode changes. The
far writes pending now are marked (R496) and the hazard history is cleared (R535). An IVAR above 0x1FFF is outside
PRAM: refused (R212, R527). -/
def takeInterrupt (σ : State) : Host.Outcome State Fault Refusal :=
  if 0x1FFF < σ.me.ivar.toNat then .refused .pcOutsidePram
  else
    let clear (k : Core) : Core :=
      if σ.cfg.irqrAutoclear then { k with irqr := setBit k.irqr (σ.pickPending k) false } else k
    .next ({ σ.onMe fun k => { (clear k.startRun).jsrIvar σ.cfg.stackDepth with hist := [] } with
      free := if σ.cfg.irqrAutoclear then σ.free + 1 else σ.free })

/-- THE RETURN from an interrupt (R211): pop the pc and clear in_isr, restoring nothing else; an empty stack is a stack
error (R220). -/
def Core.returnIsr (k : Core) : Core :=
  match k.pcstack with
  | [] => k.stackFail
  | p :: rest => { k with pc := p, pcstack := rest, inIsr := false }

end Sys2Proof.Machine
end

