-- ==== Sys2Proof/Machine/Flags.lean ====
section
/-! DEFINITION. The two condition flags the spec names, C and V (10_state.md R48): where they lie in CCR is open, so
their positions are parameters. The packed N and Z results of the comparisons are data (47_compare_minmax.md R380). -/

namespace Sys2Proof.Machine

/-- CCR.C of the core whose turn it is. -/
def State.flagC (σ : State) : Bool := σ.me.ccr.getLsbD σ.cfg.ccrC.toNat
/-- CCR.V of the core whose turn it is. -/
def State.flagV (σ : State) : Bool := σ.me.ccr.getLsbD σ.cfg.ccrV.toNat

/-- Write CCR.C; every other bit of CCR stays. -/
def State.setC (σ : State) (b : Bool) : State :=
  σ.onMe fun k => { k with ccr := setBit k.ccr σ.cfg.ccrC.toNat b }
/-- Write CCR.V; every other bit of CCR stays. -/
def State.setV (σ : State) (b : Bool) : State :=
  σ.onMe fun k => { k with ccr := setBit k.ccr σ.cfg.ccrV.toNat b }

/-- N of a comparison: the exact difference is negative (R380 (b)). -/
def flagNeg (s t : Int) : Bool := decide (s < t)
/-- Z of a comparison: the operands are equal (R380 (b)). -/
def flagZero (s t : Int) : Bool := decide (s = t)

/-- V of NEGDE: the only 64-bit value whose negation overflows is the most negative one (48_alu64.md R432). -/
def negOverflows (v : Dbl) : Bool := v == 0x8000000000000000

/-- The instructions that read or write C or V (00_scope.md R13). -/
def usesFlags : Instr → Bool
  | .adcd _ _ _ => true
  | .sbcd _ _ _ => true
  | .norvd _ _ => true
  | .negde _ _ => true
  | .rord _ _ => true
  | .rold _ _ => true
  | .btstd _ _ => true
  | .btstdi _ _ => true
  | _ => false

end Sys2Proof.Machine
end

