-- ==== Sys2Proof/Machine/Operands.lean ====
section
/-! DEFINITION. What a part of an instruction does: a list of writes computed from the state BEFORE the instruction
(30_encoding.md R174: all parts read the old state, then all write), or a refusal. Here: the writes and how they are
committed, what they touch, every operand form (even `.Q` registers, accumulator numbers, scaling, pointers and their
updates, memory words, control registers). -/

namespace Sys2Proof.Machine

/-- One write of a part of an instruction, by the core whose turn it is. -/
inductive Write where
  /-- `R[n] <- v`, and the wider views. -/
  | h (n : Reg) (v : Half)
  | l (n : Reg) (v : Word)
  | d (n : Reg) (v : Dbl)
  | q (n : Reg) (v : Quad)
  /-- `AC[n].L <- v`. -/
  | ac (n : BitVec 4) (v : Word)
  /-- `ACC64[n] <- v`. -/
  | acc64 (n : BitVec 3) (v : Dbl)
  /-- `CCR.C <- b`. -/
  | flagC (b : Bool)
  /-- `CCR.V <- b`. -/
  | flagV (b : Bool)
  /-- XYRAM word w, near or far. -/
  | word (w : Half) (v : Word)
  /-- A control register, all its bits; a 16-bit register takes the low half of v. -/
  | ctl (rc : CReg) (v : Word)
  /-- A write access to Xk (R113, R116). -/
  | xWrite (k : BitVec 5) (v : Dbl)
  /-- A read access to Xk has been made (R116). -/
  | xRead (k : BitVec 5)
  /-- A write to DSTART (R199, R476). -/
  | dstart (v : Word)
  /-- CCR has been read (R194). -/
  | seeCcr
  /-- The far writes that were pending at interrupt acceptance land before this instruction's far read (R496). -/
  | land
  /-- A free value was drawn. -/
  | draw
  /-- Return from interrupt (R211). -/
  | leave
  /-- A jump (R214). -/
  | jump (target : Half)
  /-- STOP (R219). -/
  | halt
  /-- The access to Xk must wait (R117): nothing of the instruction happens. -/
  | block (k : BitVec 5) (write : Bool)
  deriving DecidableEq, Repr

/-- What a part does, or why it may not execute. -/
abbrev Effect := Except Refusal (List Write)

/-! ### Control registers -/

/-- The value of a control register of core c, zero-extended (10_state.md sections 4, 5; R70). -/
def State.getCtl (σ : State) (c : CoreId) (rc : CReg) : Word :=
  let k := σ.core c
  match rc with
  | .a n => k.getA n
  | .i n => (k.getI n).setWidth 32
  | .m n => (k.m[n.toNat]'n.isLt).setWidth 32
  | .ptrT => k.ptrT
  | .it => k.it.setWidth 32
  | .mt => k.mt.setWidth 32
  | .dt => k.dt.setWidth 32
  | .ivar => k.ivar.setWidth 32
  | .x n => (σ.xbuf[n.toNat]'n.isLt).extractLsb' 0 32
  | .dcsr => k.dcsr.setWidth 32
  | .sr => k.sr.setWidth 32
  | .idr => (idr c).setWidth 32
  | .efr => σ.efr
  | .irqr => k.irqr
  | .imaskr => k.imaskr
  | .tmr => k.tmr
  | .arbr => k.arbr.setWidth 32
  | .pc => k.pc.setWidth 32
  | .ss => k.ss.setWidth 32
  | .la => k.la.setWidth 32
  | .csl => k.csl.setWidth 32
  | .lc => k.lc.setWidth 32
  | .csh => k.csh.setWidth 32
  | .sp => k.sp.setWidth 32
  | .sar n => (k.sars[n.toNat]'n.isLt).setWidth 32
  | .cntr => k.cntr.setWidth 32
  | .pdnr => k.pdnr.setWidth 32
  | .ccr => k.ccr.setWidth 32
  | .sfr => k.sfr
  | .ac n => k.acL n

/-- A write of DCSR: RUN, STP, BRK, SE, PI take the value, WAIT keeps its own (40_moves.md R200); a start clears
Cnt_RUN (R62). -/
def Core.writeDcsr (k : Core) (v : Half) : Core :=
  { k with dcsr := (v &&& 0x400F) ||| (k.dcsr &&& 0x0010),
           cntRun := if v.getLsbD 14 && !k.run then 0 else k.cntRun }

/-- A write of dbDCSR (60_exceptions.md R486); a start clears Cnt_RUN (R62). -/
def Core.writeDbDcsr (k : Core) (v : Half) : Core :=
  { k with dbDcsr := v &&& dbDcsrDefined,
           cntRun := if v.getLsbD 14 && !k.dbRun then 0 else k.cntRun }

/-- A control register takes a value; the read-only ones (IDR) and those with an access of their own (X, EFR/DSTART)
are unchanged. -/
def Core.setCtl (k : Core) (rc : CReg) (v : Word) : Core :=
  let h := v.extractLsb' 0 16
  match rc with
  | .a n => k.setA n v
  | .i n => { k with i := k.i.set n.toNat h n.isLt }
  | .m n => { k with m := k.m.set n.toNat h n.isLt }
  | .ptrT => { k with ptrT := v }
  | .it => { k with it := h }
  | .mt => { k with mt := h }
  | .dt => { k with dt := h }
  | .ivar => { k with ivar := h }
  | .x _ => k
  | .dcsr => k.writeDcsr h
  | .sr => { k with sr := h }
  | .idr => k
  | .efr => k
  | .irqr => { k with irqr := v }
  | .imaskr => { k with imaskr := v }
  | .tmr => { k with tmr := v }
  | .arbr => { k with arbr := h }
  | .pc => { k with pc := h }
  | .ss => { k with ss := h }
  | .la => { k with la := h }
  | .csl => { k with csl := h }
  | .lc => { k with lc := h }
  | .csh => { k with csh := h }
  | .sp => { k with sp := h }
  | .sar n => { k with sars := k.sars.set n.toNat h n.isLt }
  | .cntr => { k with cntr := h }
  | .pdnr => { k with pdnr := h }
  | .ccr => { k with ccr := h }
  | .sfr => { k with sfr := v }
  | .ac n => k.setAcL n v

/-- A value a register may not take: a 1 in a reserved bit (R69), or a CCR value that was not read from CCR (R194). -/
def ctlRefusal (k : Core) (rc : CReg) (v : Word) : Option Refusal :=
  let h := v.extractLsb' 0 16
  match rc with
  | .dcsr => if within dcsrDefined h then none else some .reservedBit
  | .arbr => if within arbrDefined h then none else some .reservedBit
  | .irqr => if within irqrDefined v then none else some .reservedBit
  | .ccr => if k.ccrSeen.contains h then none else some .ccrValue
  | _ => none

/-! ### Committing writes -/

/-- The bits of a DSTART value take effect (R476): StartDMA(k) for bits 3..0, then the requests to DSP0 and DSP1, each
shown at bit 24 + number of the writing core. -/
def State.dstart (σ : State) (v : Word) : State :=
  let starts := ([0, 1, 2, 3] : List (BitVec 2)).filter fun k => v.getLsbD k.toNat
  let bit := if σ.turn.bit then 25 else 24
  let σ := { σ with dmaStarts := σ.dmaStarts ++ starts }
  let σ := if v.getLsbD 24 then σ.raise .dsp0 bit else σ
  if v.getLsbD 25 then σ.raise .dsp1 bit else σ

/-- One write takes effect. -/
def commit (w : Write) (σ : State) : State :=
  match w with
  | .h n v => σ.onMe fun k => k.setH n v
  | .l n v => σ.onMe fun k => k.setL n v
  | .d n v => σ.onMe fun k => k.setD n v
  | .q n v => σ.onMe fun k => k.setQ n v
  | .ac n v => σ.onMe fun k => k.setAcL n v
  | .acc64 n v => σ.onMe fun k => k.setAcc64 n v
  | .flagC b => σ.setC b
  | .flagV b => σ.setV b
  | .word a v => σ.writeOne a v
  | .ctl rc v => σ.onMe fun k => k.setCtl rc v
  | .xWrite k v => { σ with xbuf := σ.xbuf.set k.toNat v k.isLt, efr := setBit σ.efr k.toNat true }
  | .xRead k => { σ with efr := setBit σ.efr k.toNat false }
  | .dstart v => σ.dstart v
  | .seeCcr => σ.onMe fun k =>
      { k with ccrSeen := if k.ccrSeen.contains k.ccr then k.ccrSeen else k.ccr :: k.ccrSeen }
  | .land => σ.landOld σ.turn
  | .draw => { σ with free := σ.free + 1 }
  | .leave => σ.onMe Core.returnIsr
  | .jump t => σ.onMe fun k => { k with pc := t }
  | .halt => σ.onMe fun k => { k with dcsr := setBit (setBit k.dcsr 3 true) 14 false }
  | .block _ _ => σ

/-- Writes take effect in order. -/
def commitAll : List Write → State → State
  | [], σ => σ
  | w :: rest, σ => commitAll rest (commit w σ)

/-- Whether a list of writes says that the instruction must wait. -/
def blocked : List Write → Bool
  | [] => false
  | .block _ _ :: _ => true
  | _ :: rest => blocked rest

/-- The instruction is held until its XBUF access is allowed: DCSR.WAIT reads 1, nothing else changes (R117, R193). -/
def State.hold (σ : State) (x : Insn) : State :=
  σ.onMe fun k => { k with dcsr := setBit k.dcsr 4 true, held := some x }

/-- The meaning of one part on its own. -/
def solo (e : Effect) (σ : State) : Host.Outcome State Fault Refusal :=
  match e with
  | .error r => .refused r
  | .ok ws => .next (commitAll ws σ)

/-- The meaning of one part that may have to wait, inside the instruction `x`. -/
def soloOrHold (x : Insn) (e : Effect) (σ : State) : Host.Outcome State Fault Refusal :=
  match e with
  | .error r => .refused r
  | .ok ws => if blocked ws then .next (σ.hold x) else .next (commitAll ws σ)

/-! ### What a write touches -/

/-- The 16-bit units of the register file a view covers: unit 8k + j is bits 16j+15..16j of ROW[k]. -/
def unitMask (n : Reg) (w : Width) : BitVec 128 :=
  let size : Nat := match w with | .w16 => 1 | .w32 => 2 | .w64 => 4 | .w128 => 8
  let start := 8 * (rowOf n).toNat + (if oddReg n && w != .w128 then size else 0)
  BitVec.ofNat 128 (2 ^ size - 1) <<< start

/-- The register-file units a write touches. -/
def Write.units : Write → BitVec 128
  | .h n _ => unitMask n .w16
  | .l n _ => unitMask n .w32
  | .d n _ => unitMask n .w64
  | .q n _ => unitMask n .w128
  | _ => 0

/-- The accumulators a write touches, bit n for AC[n]. -/
def Write.accs : Write → BitVec 16
  | .ac n _ => BitVec.ofNat 16 (2 ^ n.toNat)
  | .acc64 n _ => BitVec.ofNat 16 (3 * 4 ^ n.toNat)
  | _ => 0

/-- The address registers a write touches, bit n for A[n]. -/
def Write.addrRegs : Write → BitVec 8
  | .ctl (.a n) _ => BitVec.ofNat 8 (2 ^ n.toNat)
  | _ => 0

/-- The union of what the writes of a part touch. -/
def unionOf {n : Nat} (f : Write → BitVec n) : List Write → BitVec n
  | [] => 0
  | w :: rest => f w ||| unionOf f rest

/-! ### Operand forms -/

/-- `.Q` operands must be even (R26). -/
def needQuad (ns : List Reg) (e : Effect) : Effect := if ns.all quadOk then e else .error .oddQuad

/-- The accumulator operand of a MAC-group instruction with the fields t, s, d (44_mac.md R275 (b)): its number stands
in the field that `CFG.MAC_N_FIELD` selects. -/
def withAcc (σ : State) (allowed : List Nat) (t s d : BitVec 5) (f : BitVec 3 → Effect) : Effect :=
  let n := accField σ.cfg.macNField t s d
  if accOk allowed n then f (n.extractLsb' 0 3) else .error .accumulatorNumber

/-- `acc(n, x)`: the 64-bit accumulation, modulo 2^64 (R275 (c)). -/
def accum (σ : State) (n : BitVec 3) (x : Int) : Write := .acc64 n (wrap 64 ((σ.me.acc64 n).toInt + x))

/-- The instruction instance at the pc carries the scaling modifier (R17). -/
def scaledHere (σ : State) : Bool := σ.me.scaledAt.contains σ.me.pc

/-- Scaling (R17, 46_alu_packed.md R340): the shift of the lane results, 0 when the instance is not scaled; 3 only where
allowed. -/
def withScale (σ : State) (forced allowThree : Bool) (f : Nat → Effect) : Effect :=
  let k := if forced || scaledHere σ then σ.me.scale.toNat else 0
  if k = 3 ∧ allowThree = false then .error .scaleThree else f k

/-- `lane16(x)` (R340). -/
def lane16 (σ : State) (k : Nat) (x : Int) : Half := narrow 16 σ.me.sat (shrInt x k)
/-- `lane32(x)` (R340). -/
def lane32 (σ : State) (k : Nat) (x : Int) : Word := narrow 32 σ.me.sat (shrInt x k)

/-- A shift amount or bit number held in a 16-bit register (45_shifter64.md R315). -/
def withAmount (limit : Nat) (a : Half) (f : Nat → Effect) : Effect :=
  if a.toNat ≤ limit then f a.toNat else .error .shiftAmount

/-- A selector of LDAC, LDACD, STAC, STACD: exactly one bit set, below `count` (44_mac.md R275, R278). -/
def withSelector (count : Nat) (m : Half) (f : Nat → Effect) : Effect :=
  match onehot m with
  | some n => if n < count then f n else .error .selector
  | none => .error .selector

/-! ### Sums and products of parts -/

/-- `s16(h(T,i)) * s16(h(S,k))` (44_mac.md sections 1, 3). -/
def prodAt {m n : Nat} (t : BitVec m) (s : BitVec n) (i k : Nat) : Int := sh t i * sh s k

/-- The sum of the products of parts `start` .. `start + count - 1` (43_mul_fixed.md section 5, 44_mac.md R281). -/
def sumProd {m n : Nat} (t : BitVec m) (s : BitVec n) (start : Nat) : Nat → Int
  | 0 => 0
  | count + 1 => sumProd t s start count + prodAt t s (start + count) (start + count)

/-- `(-1)^T[i] * s_i` (44_mac.md R297, 46_alu_packed.md R362). -/
def signedPart {m n : Nat} (t : BitVec m) (s : BitVec n) (i : Nat) : Int :=
  if t.getLsbD i then -(sh s i) else sh s i

/-! ### Data memory -/

/-- Why an access of m words at a pointer may not be made (R35, R103, R121). -/
def accessRefusal (σ : State) (p : Word) (m : Nat) : Option Refusal :=
  let w := p.extractLsb' 0 16
  if p.extractLsb' 16 16 ≠ 0 then some .pointerHigh
  else if 0x2000 - m < w.toNat % 0x2000 then some .pageCross
  else if σ.clk (if w.getLsbD 15 then .dsp1 else .dsp0) then none
  else some .clockOff

/-- The number of words of a memory move (R184). -/
def wordsOf (u : Bool) : Nat := if u then 4 else 2

/-- The marks a read of m words leaves: far writes that land first, a free value drawn. -/
def readMarks (σ : State) (w : Half) (m : Nat) : List Write :=
  (if σ.me.inIsr && isFar σ.turn w && σ.me.farq.any (·.old) then [.land] else []) ++
  (if (List.range m).any fun j => !((σ.viewFor w).pendingAt (w + BitVec.ofNat 16 j)).isEmpty then [.draw] else [])

/-- `MemRead(w, 64)` by the core whose turn it is (R100); `port` tells the draws of the X and the Y move apart. -/
def memRead64 (σ : State) (port : Nat) (w : Half) : Dbl :=
  let v := σ.viewFor w
  let at' (j : Nat) : Word := v.readOne (w + BitVec.ofNat 16 j) (8 * σ.free + 4 * port + j)
  two32 (at' 1) (at' 0)

/-- `MemRead(w, 128)` (R100). -/
def memRead128 (σ : State) (port : Nat) (w : Half) : Quad :=
  let v := σ.viewFor w
  let at' (j : Nat) : Word := v.readOne (w + BitVec.ofNat 16 j) (8 * σ.free + 4 * port + j)
  four32 (at' 3) (at' 2) (at' 1) (at' 0)

/-- `MemWrite(w, 64, v)` (R100). DESIGN CHOICE (log entry 16): the words of one far store join the FIFO, and so land,
lowest word address first; the spec gives no order among them (R109). -/
def memWrite64 (w : Half) (v : Dbl) : List Write := [.word w (wp v 0), .word (w + 1) (wp v 1)]
/-- `MemWrite(w, 128, v)` (R100). DESIGN CHOICE (log entry 16): the words of one far store join the FIFO, and so land,
lowest word address first; the spec gives no order among them (R109). -/
def memWrite128 (w : Half) (v : Quad) : List Write :=
  [.word w (wp v 0), .word (w + 1) (wp v 1), .word (w + 2) (wp v 2), .word (w + 3) (wp v 3)]

/-- The amount a known action adds to a pointer (R183, R187); `none` for Unknown. -/
def pointerDelta (act : Action) (m : Nat) (offset : Half) : Option Half :=
  match act with
  | .noUpdate => some 0
  | .postInc => some (BitVec.ofNat 16 m)
  | .postDec => some (0 - BitVec.ofNat 16 m)
  | .postAddOffset => some offset
  | .unknown => none

/-- A 64- or 128-bit load into register n. -/
def loadInto (σ : State) (port : Nat) (n : Reg) (u : Bool) (w : Half) : List Write :=
  readMarks σ w (wordsOf u) ++ (if u then [.q n (memRead128 σ port w)] else [.d n (memRead64 σ port w)])

/-- A 64- or 128-bit store of register n. -/
def storeFrom (σ : State) (n : Reg) (u : Bool) (w : Half) : List Write :=
  if u then memWrite128 w (σ.me.q n) else memWrite64 w (σ.me.d n)

/-- An access through the pointer `p` with mode action `act`: the refusals, then the transfer and the update of the
pointer register `rc` (R183). -/
def throughPointer (σ : State) (rc : CReg) (p : Word) (act : Action) (m : Nat) (offset : Half)
    (transfer : Half → List Write) : Effect :=
  match pointerDelta act m offset with
  | none => .error .unknownMode
  | some δ =>
    match accessRefusal σ p m with
    | some r => .error r
    | none =>
      .ok (transfer (p.extractLsb' 0 16) ++ (if act = .noUpdate then [] else [.ctl rc (lowSum p δ)]))

/-- Whether the last instruction changed SR.YM (R532). -/
def ymFresh (σ : State) : Bool :=
  match σ.me.hist with
  | [] => false
  | t :: _ => t.ymChanged

/-- The Y move: a load through AT into register 0 (R182, R190), with the YM restriction (R532). -/
def moveY (σ : State) (aT : BitVec 2) (u : Bool) : Effect :=
  let act := σ.cfg.atMode.getD aT.toNat .unknown
  if act ≠ .noUpdate ∧ ymFresh σ = true then .error .ymHazard
  else throughPointer σ .ptrT σ.me.ptrT act (wordsOf u) σ.me.dt (loadInto σ 1 0 u)

/-- The X move: between memory through A[a] and register 2*r (R181); `de = CFG.DE_DIR` = a store (R185). -/
def moveX (σ : State) (r : BitVec 4) (u : Bool) (mode a : BitVec 3) (de : Bool) : Effect :=
  let act := σ.cfg.aguMode.getD mode.toNat .unknown
  throughPointer σ (.a a) (σ.me.getA a) act (wordsOf u) (σ.me.getI a)
    (if de = σ.cfg.deDir then storeFrom σ (r ++ 0#1) u else loadInto σ 0 (r ++ 0#1) u)

/-! ### Moves between control registers and the register file -/

/-- An access to Xk (R113..R119): refused with DSP0's clock off, waiting in synchronous mode when EFR[k] equals its
type. -/
def xAccess (σ : State) (k : BitVec 5) (isWrite : Bool) (ws : List Write) : Effect :=
  if σ.clk0 = false then .error .clockOff
  else if σ.synwork && (σ.efr.getLsbD k.toNat == isWrite) then .ok [.block k isWrite]
  else .ok ws

/-- `R[rr] <- RC` in a width (R191..R198). -/
def moveFromRc (σ : State) (rc : CReg) (w : Width) (rr : Reg) : Effect :=
  match rc with
  | .x k => xAccess σ k false [.d rr (σ.xbuf[k.toNat]'k.isLt), .xRead k]
  | .ac n =>
    match w with
    | .w128 => .ok [.q rr (σ.me.acQ n)]
    | .w64 => .ok [.d rr (σ.me.acD n)]
    | _ => .ok [.l rr (σ.me.acL n)]
  | .ccr => .ok [.h rr σ.me.ccr, .seeCcr]
  | rc =>
    match w with
    | .w32 => .ok [.l rr (σ.getCtl σ.turn rc)]
    | _ => .ok [.h rr ((σ.getCtl σ.turn rc).extractLsb' 0 16)]

/-- `RC <- R[rr]` in a width (R191..R200). A 16-bit move into An or AT keeps bits 31..16 (R196); a write of IDR has no
effect (R194); a write of the code EFR/DSTART is the DSTART event (R199). -/
def moveToRc (σ : State) (rc : CReg) (w : Width) (rr : Reg) : Effect :=
  match rc with
  | .x k => xAccess σ k true [.xWrite k (σ.me.d rr)]
  | .ac n =>
    match w with
    | .w128 =>
      .ok [.acc64 (n.extractLsb' 2 2 ++ 0#1) ((σ.me.q rr).extractLsb' 0 64),
        .acc64 (n.extractLsb' 2 2 ++ 1#1) ((σ.me.q rr).extractLsb' 64 64)]
    | .w64 => .ok [.acc64 (n.extractLsb' 1 3) (σ.me.d rr)]
    | _ => .ok [.ac n (σ.me.l rr)]
  | .a n =>
    match w with
    | .w32 => .ok [.ctl (.a n) (σ.me.l rr)]
    | _ => .ok [.ctl (.a n) ((σ.me.getA n).extractLsb' 16 16 ++ σ.me.h rr)]
  | .ptrT =>
    match w with
    | .w32 => .ok [.ctl .ptrT (σ.me.l rr)]
    | _ => .ok [.ctl .ptrT (σ.me.ptrT.extractLsb' 16 16 ++ σ.me.h rr)]
  | .idr => .ok []
  | .efr => if within dstartDefined (σ.me.l rr) then .ok [.dstart (σ.me.l rr)] else .error .reservedBit
  | rc =>
    let v : Word := match w with | .w32 => σ.me.l rr | _ => (σ.me.h rr).setWidth 32
    match ctlRefusal σ.me rc v with
    | some r => .error r
    | none => .ok [.ctl rc v]

/-- A move between a control register and R[rr] in a width, with the refusals that hold for every such move (R194, R195,
R26). -/
def moveCtl (σ : State) (rc : CReg) (w : Width) (toRc : Bool) (rr : Reg) : Effect :=
  let viewOk := match rc with | .ac n => accViewOk n w | _ => true
  if stackReg rc then .error .stackRegister
  else if viewOk = false then .error .accumulatorView
  else if regOk w rr = false then .error .oddQuad
  else if toRc then moveToRc σ rc w rr else moveFromRc σ rc w rr

/-- The move of format 9d (R191). -/
def move9d (σ : State) (rr : Reg) (rc : CReg) (l de : Bool) : Effect :=
  if stackReg rc then .error .stackRegister
  else
    match width9d rc l with
    | none => .error .widthBit
    | some w => moveCtl σ rc w (de == σ.cfg.deDir) rr

end Sys2Proof.Machine
end

