-- ==== Sys2Proof/Machine/Accumulate.lean ====
section
/-! DEFINITION. Accumulator control and multiply-accumulate (44_mac.md). For each instruction `fx…`, the writes it makes from the
state before it, and its meaning `exec…`. -/

namespace Sys2Proof.Machine

/-- `(tre*sre + tim*sim)` of the byte-complex pair i (44_mac.md R295): the real part is the upper byte of the upper
halfword, the imaginary part the upper byte of the lower halfword. -/
def byteRe (t s : Quad) (i : Nat) : Int :=
  (bp t (4 * i + 3)).toInt * (bp s (4 * i + 3)).toInt + (bp t (4 * i + 1)).toInt * (bp s (4 * i + 1)).toInt
/-- `(tim*sre - tre*sim)` of the byte-complex pair i (R295). -/
def byteIm (t s : Quad) (i : Nat) : Int :=
  (bp t (4 * i + 1)).toInt * (bp s (4 * i + 3)).toInt - (bp t (4 * i + 3)).toInt * (bp s (4 * i + 1)).toInt

/-- MACX T.L,S.L,ACn.D (R293). -/
def fxMacx (rt : Reg) (rs : Reg) (n : BitVec 5) (σ : State) : Effect :=
  let T := σ.me.l rt
  let S := σ.me.l rs
  withAcc σ accPairs rt rs n fun j => .ok [
      accum σ (j + 1) (prodAt T S 1 1 - prodAt T S 0 0), accum σ j (prodAt T S 1 0 + prodAt T S 0 1)]

/-- The meaning of MACX (R293). -/
def execMacx (rt : Reg) (rs : Reg) (n : BitVec 5) (σ : State) : Host.Outcome State Fault Refusal :=
  solo (fxMacx rt rs n σ) σ

/-- MACX2 T.D,S.D,ACn.D (R291). -/
def fxMacx2 (rt : Reg) (rs : Reg) (n : BitVec 5) (σ : State) : Effect :=
  let T := σ.me.d rt
  let S := σ.me.d rs
  withAcc σ accPairs rt rs n fun j => .ok [
      accum σ (j + 1) (prodAt T S 3 3 - prodAt T S 2 2 + prodAt T S 1 1 - prodAt T S 0 0),
      accum σ j (prodAt T S 3 2 + prodAt T S 2 3 + prodAt T S 1 0 + prodAt T S 0 1)]

/-- The meaning of MACX2 (R291). -/
def execMacx2 (rt : Reg) (rs : Reg) (n : BitVec 5) (σ : State) : Host.Outcome State Fault Refusal :=
  solo (fxMacx2 rt rs n σ) σ

/-- MACXC T.L,S.L,ACn.D (R294). -/
def fxMacxc (rt : Reg) (rs : Reg) (n : BitVec 5) (σ : State) : Effect :=
  let T := σ.me.l rt
  let S := σ.me.l rs
  withAcc σ accPairs rt rs n fun j => .ok [
      accum σ (j + 1) (prodAt T S 1 1 + prodAt T S 0 0), accum σ j (-(prodAt T S 1 0) + prodAt T S 0 1)]

/-- The meaning of MACXC (R294). -/
def execMacxc (rt : Reg) (rs : Reg) (n : BitVec 5) (σ : State) : Host.Outcome State Fault Refusal :=
  solo (fxMacxc rt rs n σ) σ

/-- MACXC2 T.D,S.D,ACn.D (R292). -/
def fxMacxc2 (rt : Reg) (rs : Reg) (n : BitVec 5) (σ : State) : Effect :=
  let T := σ.me.d rt
  let S := σ.me.d rs
  withAcc σ accPairs rt rs n fun j => .ok [
      accum σ (j + 1) (prodAt T S 3 3 + prodAt T S 2 2 + prodAt T S 1 1 + prodAt T S 0 0),
      accum σ j (-(prodAt T S 3 2) + prodAt T S 2 3 - prodAt T S 1 0 + prodAt T S 0 1)]

/-- The meaning of MACXC2 (R292). -/
def execMacxc2 (rt : Reg) (rs : Reg) (n : BitVec 5) (σ : State) : Host.Outcome State Fault Refusal :=
  solo (fxMacxc2 rt rs n σ) σ

/-- MAC41 T.D,S.D,ACn.D (R283). -/
def fxMac41 (rt : Reg) (rs : Reg) (n : BitVec 5) (σ : State) : Effect :=
  let T := σ.me.d rt
  let S := σ.me.d rs
  withAcc σ accAny rt rs n fun j => .ok [accum σ j (sumProd T S 0 4)]

/-- The meaning of MAC41 (R283). -/
def execMac41 (rt : Reg) (rs : Reg) (n : BitVec 5) (σ : State) : Host.Outcome State Fault Refusal :=
  solo (fxMac41 rt rs n σ) σ

/-- MAC81 T.Q,S.Q,ACn.D (R281). -/
def fxMac81 (rt : Reg) (rs : Reg) (n : BitVec 5) (σ : State) : Effect :=
  let T := σ.me.q rt
  let S := σ.me.q rs
  needQuad [rt, rs] <|
    withAcc σ accAny rt rs n fun j => .ok [accum σ j (sumProd T S 0 8)]

/-- The meaning of MAC81 (R281). -/
def execMac81 (rt : Reg) (rs : Reg) (n : BitVec 5) (σ : State) : Host.Outcome State Fault Refusal :=
  solo (fxMac81 rt rs n σ) σ

/-- MACXB4 T.Q,S.Q,ACn.D (R295). -/
def fxMacxb4 (rt : Reg) (rs : Reg) (n : BitVec 5) (σ : State) : Effect :=
  let T := σ.me.q rt
  let S := σ.me.q rs
  needQuad [rt, rs] <|
    withAcc σ accPairs rt rs n fun j => .ok [
      accum σ (j + 1) (byteRe T S 3 + byteRe T S 2 + byteRe T S 1 + byteRe T S 0),
      accum σ j (byteIm T S 3 + byteIm T S 2 + byteIm T S 1 + byteIm T S 0)]

/-- The meaning of MACXB4 (R295). -/
def execMacxb4 (rt : Reg) (rs : Reg) (n : BitVec 5) (σ : State) : Host.Outcome State Fault Refusal :=
  solo (fxMacxb4 rt rs n σ) σ

/-- MACL2 T.D,S.D,ACn.D (R296). -/
def fxMacl2 (rt : Reg) (rs : Reg) (n : BitVec 5) (σ : State) : Effect :=
  let T := σ.me.d rt
  let S := σ.me.d rs
  withAcc σ accAny rt rs n fun j => .ok [accum σ j (sw T 1 * sw S 1 + sw T 0 * sw S 0)]

/-- The meaning of MACL2 (R296). -/
def execMacl2 (rt : Reg) (rs : Reg) (n : BitVec 5) (σ : State) : Host.Outcome State Fault Refusal :=
  solo (fxMacl2 rt rs n σ) σ

/-- CLRAC T (R276). -/
def fxClrac (rt : Reg) (σ : State) : Effect :=
  let T := σ.me.h rt
  .ok ((List.range 16).filterMap fun n =>
      if T.getLsbD n then some (.ac (BitVec.ofNat 4 n) 0) else none)

/-- The meaning of CLRAC (R276). -/
def execClrac (rt : Reg) (σ : State) : Host.Outcome State Fault Refusal :=
  solo (fxClrac rt σ) σ

/-- LDAC T,D.L (R277). -/
def fxLdac (rt : Reg) (rd : Reg) (σ : State) : Effect :=
  let T := σ.me.h rt
  withSelector 16 T fun n => .ok [.l rd (σ.me.acL (BitVec.ofNat 4 n))]

/-- The meaning of LDAC (R277). -/
def execLdac (rt : Reg) (rd : Reg) (σ : State) : Host.Outcome State Fault Refusal :=
  solo (fxLdac rt rd σ) σ

/-- LDACD T,D.D (R278). -/
def fxLdacd (rt : Reg) (rd : Reg) (σ : State) : Effect :=
  let T := σ.me.h rt
  withSelector 8 T fun n => .ok [.d rd (σ.me.acc64 (BitVec.ofNat 3 n))]

/-- The meaning of LDACD (R278). -/
def execLdacd (rt : Reg) (rd : Reg) (σ : State) : Host.Outcome State Fault Refusal :=
  solo (fxLdacd rt rd σ) σ

/-- STAC T,S.L (R279). -/
def fxStac (rt : Reg) (rs : Reg) (σ : State) : Effect :=
  let T := σ.me.h rt
  let S := σ.me.l rs
  withSelector 16 T fun n => .ok [.ac (BitVec.ofNat 4 n) S]

/-- The meaning of STAC (R279). -/
def execStac (rt : Reg) (rs : Reg) (σ : State) : Host.Outcome State Fault Refusal :=
  solo (fxStac rt rs σ) σ

/-- STACD T,S.D (R280). -/
def fxStacd (rt : Reg) (rs : Reg) (σ : State) : Effect :=
  let T := σ.me.h rt
  let S := σ.me.d rs
  withSelector 8 T fun n => .ok [.acc64 (BitVec.ofNat 3 n) S]

/-- The meaning of STACD (R280). -/
def execStacd (rt : Reg) (rs : Reg) (σ : State) : Host.Outcome State Fault Refusal :=
  solo (fxStacd rt rs σ) σ

/-- MAC42 T.Q,S.Q,ACn.D (R282). -/
def fxMac42 (rt : Reg) (rs : Reg) (n : BitVec 5) (σ : State) : Effect :=
  let T := σ.me.q rt
  let S := σ.me.q rs
  needQuad [rt, rs] <|
    withAcc σ accPairs rt rs n fun j => .ok [accum σ (j + 1) (sumProd T S 4 4), accum σ j (sumProd T S 0 4)]

/-- The meaning of MAC42 (R282). -/
def execMac42 (rt : Reg) (rs : Reg) (n : BitVec 5) (σ : State) : Host.Outcome State Fault Refusal :=
  solo (fxMac42 rt rs n σ) σ

/-- MAC24 T.Q,S.Q,ACn.D (R284). -/
def fxMac24 (rt : Reg) (rs : Reg) (n : BitVec 5) (σ : State) : Effect :=
  let T := σ.me.q rt
  let S := σ.me.q rs
  needQuad [rt, rs] <|
    withAcc σ accQuads rt rs n fun j => .ok [accum σ j (sumProd T S 0 2), accum σ (j + 1) (sumProd T S 2 2),
      accum σ (j + 2) (sumProd T S 4 2), accum σ (j + 3) (sumProd T S 6 2)]

/-- The meaning of MAC24 (R284). -/
def execMac24 (rt : Reg) (rs : Reg) (n : BitVec 5) (σ : State) : Host.Outcome State Fault Refusal :=
  solo (fxMac24 rt rs n σ) σ

/-- MAC22 T.D,S.D,ACn.D (R285). -/
def fxMac22 (rt : Reg) (rs : Reg) (n : BitVec 5) (σ : State) : Effect :=
  let T := σ.me.d rt
  let S := σ.me.d rs
  withAcc σ accPairs rt rs n fun j => .ok [accum σ (j + 1) (sumProd T S 2 2), accum σ j (sumProd T S 0 2)]

/-- The meaning of MAC22 (R285). -/
def execMac22 (rt : Reg) (rs : Reg) (n : BitVec 5) (σ : State) : Host.Outcome State Fault Refusal :=
  solo (fxMac22 rt rs n σ) σ

/-- MAC21 T.L,S.L,ACn.D (R286). -/
def fxMac21 (rt : Reg) (rs : Reg) (n : BitVec 5) (σ : State) : Effect :=
  let T := σ.me.l rt
  let S := σ.me.l rs
  withAcc σ accAny rt rs n fun j => .ok [accum σ j (sumProd T S 0 2)]

/-- The meaning of MAC21 (R286). -/
def execMac21 (rt : Reg) (rs : Reg) (n : BitVec 5) (σ : State) : Host.Outcome State Fault Refusal :=
  solo (fxMac21 rt rs n σ) σ

/-- MAC18 T.Q,S.Q (R287). -/
def fxMac18 (rt : Reg) (rs : Reg) (σ : State) : Effect :=
  let T := σ.me.q rt
  let S := σ.me.q rs
  needQuad [rt, rs] <|
    .ok [accum σ 0 (prodAt T S 0 0), accum σ 1 (prodAt T S 1 1), accum σ 2 (prodAt T S 2 2),
      accum σ 3 (prodAt T S 3 3), accum σ 4 (prodAt T S 4 4), accum σ 5 (prodAt T S 5 5),
      accum σ 6 (prodAt T S 6 6), accum σ 7 (prodAt T S 7 7)]

/-- The meaning of MAC18 (R287). -/
def execMac18 (rt : Reg) (rs : Reg) (σ : State) : Host.Outcome State Fault Refusal :=
  solo (fxMac18 rt rs σ) σ

/-- MAC14 T.D,S.D,ACn.D (R288). -/
def fxMac14 (rt : Reg) (rs : Reg) (n : BitVec 5) (σ : State) : Effect :=
  let T := σ.me.d rt
  let S := σ.me.d rs
  withAcc σ accQuads rt rs n fun j => .ok [accum σ j (prodAt T S 0 0), accum σ (j + 1) (prodAt T S 1 1),
      accum σ (j + 2) (prodAt T S 2 2), accum σ (j + 3) (prodAt T S 3 3)]

/-- The meaning of MAC14 (R288). -/
def execMac14 (rt : Reg) (rs : Reg) (n : BitVec 5) (σ : State) : Host.Outcome State Fault Refusal :=
  solo (fxMac14 rt rs n σ) σ

/-- MAC12 T.L,S.L,ACn.D (R289). -/
def fxMac12 (rt : Reg) (rs : Reg) (n : BitVec 5) (σ : State) : Effect :=
  let T := σ.me.l rt
  let S := σ.me.l rs
  withAcc σ accPairs rt rs n fun j => .ok [accum σ (j + 1) (prodAt T S 1 1), accum σ j (prodAt T S 0 0)]

/-- The meaning of MAC12 (R289). -/
def execMac12 (rt : Reg) (rs : Reg) (n : BitVec 5) (σ : State) : Host.Outcome State Fault Refusal :=
  solo (fxMac12 rt rs n σ) σ

/-- MAC11 T,S,ACn.D (R290). -/
def fxMac11 (rt : Reg) (rs : Reg) (n : BitVec 5) (σ : State) : Effect :=
  let T := σ.me.h rt
  let S := σ.me.h rs
  withAcc σ accAny rt rs n fun j => .ok [accum σ j (T.toInt * S.toInt)]

/-- The meaning of MAC11 (R290). -/
def execMac11 (rt : Reg) (rs : Reg) (n : BitVec 5) (σ : State) : Host.Outcome State Fault Refusal :=
  solo (fxMac11 rt rs n σ) σ

/-- ACSG8 T,S.Q (R297). -/
def fxAcsg8 (rt : Reg) (rs : Reg) (σ : State) : Effect :=
  let T := σ.me.h rt
  let S := σ.me.q rs
  needQuad [rs] <|
    .ok [accum σ 0 (signedPart T S 0), accum σ 1 (signedPart T S 1), accum σ 2 (signedPart T S 2),
      accum σ 3 (signedPart T S 3), accum σ 4 (signedPart T S 4), accum σ 5 (signedPart T S 5),
      accum σ 6 (signedPart T S 6), accum σ 7 (signedPart T S 7)]

/-- The meaning of ACSG8 (R297). -/
def execAcsg8 (rt : Reg) (rs : Reg) (σ : State) : Host.Outcome State Fault Refusal :=
  solo (fxAcsg8 rt rs σ) σ

/-- ACSG4 T,S.D,ACn.D (R298). -/
def fxAcsg4 (rt : Reg) (rs : Reg) (n : BitVec 5) (σ : State) : Effect :=
  let T := σ.me.h rt
  let S := σ.me.d rs
  withAcc σ accQuads rt rs n fun j => .ok [accum σ j (signedPart T S 0), accum σ (j + 1) (signedPart T S 1),
      accum σ (j + 2) (signedPart T S 2), accum σ (j + 3) (signedPart T S 3)]

/-- The meaning of ACSG4 (R298). -/
def execAcsg4 (rt : Reg) (rs : Reg) (n : BitVec 5) (σ : State) : Host.Outcome State Fault Refusal :=
  solo (fxAcsg4 rt rs n σ) σ

/-- ACSG2 T,S.L,ACn.D (R299). -/
def fxAcsg2 (rt : Reg) (rs : Reg) (n : BitVec 5) (σ : State) : Effect :=
  let T := σ.me.h rt
  let S := σ.me.l rs
  withAcc σ accPairs rt rs n fun j => .ok [accum σ j (signedPart T S 0), accum σ (j + 1) (signedPart T S 1)]

/-- The meaning of ACSG2 (R299). -/
def execAcsg2 (rt : Reg) (rs : Reg) (n : BitVec 5) (σ : State) : Host.Outcome State Fault Refusal :=
  solo (fxAcsg2 rt rs n σ) σ

/-- ACSG1 T,S,ACn.D (R300). -/
def fxAcsg1 (rt : Reg) (rs : Reg) (n : BitVec 5) (σ : State) : Effect :=
  let T := σ.me.h rt
  let S := σ.me.h rs
  withAcc σ accAny rt rs n fun j => .ok [accum σ j (signedPart T S 0)]

/-- The meaning of ACSG1 (R300). -/
def execAcsg1 (rt : Reg) (rs : Reg) (n : BitVec 5) (σ : State) : Host.Outcome State Fault Refusal :=
  solo (fxAcsg1 rt rs n σ) σ

end Sys2Proof.Machine
end

