-- ==== Sys2Proof/Machine/Alu64.lean ====
section
/-! DEFINITION. The ALU on 64-bit operands, BTSTD and BTSTDi (48_alu64.md). For each instruction `fx…`, the writes it makes from the
state before it, and its meaning `exec…`. -/

namespace Sys2Proof.Machine

/-- CCR.C as a number. -/
def carry (σ : State) : Int := if σ.flagC then 1 else 0

/-- NORVD with V = 1: the 65-bit value (not S[63], S) divided by 2, the bit pushed out rounded to even (48_alu64.md
R430). -/
def normalized (s : Dbl) : Dbl :=
  let v : Dbl := BitVec.ofBool (!s.getLsbD 63) ++ s.extractLsb' 1 63
  if s.getLsbD 0 && v.getLsbD 0 then v + 1 else v

/-- CLRD D.D (R417). -/
def fxClrd (rd : Reg) (_σ : State) : Effect :=
  .ok [.d rd 0]

/-- The meaning of CLRD (R417). -/
def execClrd (rd : Reg) (σ : State) : Host.Outcome State Fault Refusal :=
  solo (fxClrd rd σ) σ

/-- ADDD T.D,S.D,D.D (R418). -/
def fxAddd (rt : Reg) (rs : Reg) (rd : Reg) (σ : State) : Effect :=
  let T := σ.me.d rt
  let S := σ.me.d rs
  .ok [.d rd (wrap 64 (S.toNat + T.toNat))]

/-- The meaning of ADDD (R418). -/
def execAddd (rt : Reg) (rs : Reg) (rd : Reg) (σ : State) : Host.Outcome State Fault Refusal :=
  solo (fxAddd rt rs rd σ) σ

/-- SUBD T.D,S.D,D.D (R419). -/
def fxSubd (rt : Reg) (rs : Reg) (rd : Reg) (σ : State) : Effect :=
  let T := σ.me.d rt
  let S := σ.me.d rs
  .ok [.d rd (wrap 64 (S.toNat - T.toNat))]

/-- The meaning of SUBD (R419). -/
def execSubd (rt : Reg) (rs : Reg) (rd : Reg) (σ : State) : Host.Outcome State Fault Refusal :=
  solo (fxSubd rt rs rd σ) σ

/-- ADCD T.D,S.D,D.D (R420). -/
def fxAdcd (rt : Reg) (rs : Reg) (rd : Reg) (σ : State) : Effect :=
  let T := σ.me.d rt
  let S := σ.me.d rs
  .ok [.d rd (wrap 64 (S.toNat + T.toNat + carry σ))]

/-- The meaning of ADCD (R420). -/
def execAdcd (rt : Reg) (rs : Reg) (rd : Reg) (σ : State) : Host.Outcome State Fault Refusal :=
  solo (fxAdcd rt rs rd σ) σ

/-- SBCD T.D,S.D,D.D (R421). -/
def fxSbcd (rt : Reg) (rs : Reg) (rd : Reg) (σ : State) : Effect :=
  let T := σ.me.d rt
  let S := σ.me.d rs
  .ok [.d rd (wrap 64 (S.toNat - T.toNat - (1 - carry σ)))]

/-- The meaning of SBCD (R421). -/
def execSbcd (rt : Reg) (rs : Reg) (rd : Reg) (σ : State) : Host.Outcome State Fault Refusal :=
  solo (fxSbcd rt rs rd σ) σ

/-- ADDLD T.L,S.D,D.D (R422). -/
def fxAddld (rt : Reg) (rs : Reg) (rd : Reg) (σ : State) : Effect :=
  let T := σ.me.l rt
  let S := σ.me.d rs
  .ok [.d rd (wrap 64 (S.toNat + T.toInt))]

/-- The meaning of ADDLD (R422). -/
def execAddld (rt : Reg) (rs : Reg) (rd : Reg) (σ : State) : Host.Outcome State Fault Refusal :=
  solo (fxAddld rt rs rd σ) σ

/-- NEGDE S.D,D.D (R432). -/
def fxNegde (rs : Reg) (rd : Reg) (σ : State) : Effect :=
  let S := σ.me.d rs
  .ok [.d rd (if negOverflows S then 0x4000000000000000 else wrap 64 (-S.toInt)), .flagV (negOverflows S)]

/-- The meaning of NEGDE (R432). -/
def execNegde (rs : Reg) (rd : Reg) (σ : State) : Host.Outcome State Fault Refusal :=
  solo (fxNegde rs rd σ) σ

/-- NORVD S.D,D.D (R430). -/
def fxNorvd (rs : Reg) (rd : Reg) (σ : State) : Effect :=
  let S := σ.me.d rs
  .ok [.d rd (if σ.flagV then normalized S else S)]

/-- The meaning of NORVD (R430). -/
def execNorvd (rs : Reg) (rd : Reg) (σ : State) : Host.Outcome State Fault Refusal :=
  solo (fxNorvd rs rd σ) σ

/-- ANDD T.D,S.D,D.D (R406). -/
def fxAndd (rt : Reg) (rs : Reg) (rd : Reg) (σ : State) : Effect :=
  let T := σ.me.d rt
  let S := σ.me.d rs
  .ok [.d rd (T &&& S)]

/-- The meaning of ANDD (R406). -/
def execAndd (rt : Reg) (rs : Reg) (rd : Reg) (σ : State) : Host.Outcome State Fault Refusal :=
  solo (fxAndd rt rs rd σ) σ

/-- ANDCD T.D,S.D,D.D (R407). -/
def fxAndcd (rt : Reg) (rs : Reg) (rd : Reg) (σ : State) : Effect :=
  let T := σ.me.d rt
  let S := σ.me.d rs
  .ok [.d rd (~~~T &&& S)]

/-- The meaning of ANDCD (R407). -/
def execAndcd (rt : Reg) (rs : Reg) (rd : Reg) (σ : State) : Host.Outcome State Fault Refusal :=
  solo (fxAndcd rt rs rd σ) σ

/-- ANDID T.D,S.D,D.D (R408). -/
def fxAndid (rt : Reg) (rs : Reg) (rd : Reg) (σ : State) : Effect :=
  let T := σ.me.d rt
  let S := σ.me.d rs
  .ok [.d rd (~~~(T &&& S))]

/-- The meaning of ANDID (R408). -/
def execAndid (rt : Reg) (rs : Reg) (rd : Reg) (σ : State) : Host.Outcome State Fault Refusal :=
  solo (fxAndid rt rs rd σ) σ

/-- INSD T.D,S.D,D.D (R414). -/
def fxInsd (rt : Reg) (rs : Reg) (rd : Reg) (σ : State) : Effect :=
  let T := σ.me.d rt
  let S := σ.me.d rs
  let D := σ.me.d rd
  .ok [.d rd (if σ.cfg.insdPolarity then (D &&& ~~~S) ||| (T &&& S) else (T &&& ~~~S) ||| (D &&& S))]

/-- The meaning of INSD (R414). -/
def execInsd (rt : Reg) (rs : Reg) (rd : Reg) (σ : State) : Host.Outcome State Fault Refusal :=
  solo (fxInsd rt rs rd σ) σ

/-- ORD T.D,S.D,D.D (R409). -/
def fxOrd (rt : Reg) (rs : Reg) (rd : Reg) (σ : State) : Effect :=
  let T := σ.me.d rt
  let S := σ.me.d rs
  .ok [.d rd (T ||| S)]

/-- The meaning of ORD (R409). -/
def execOrd (rt : Reg) (rs : Reg) (rd : Reg) (σ : State) : Host.Outcome State Fault Refusal :=
  solo (fxOrd rt rs rd σ) σ

/-- ORCD T.D,S.D,D.D (R410). -/
def fxOrcd (rt : Reg) (rs : Reg) (rd : Reg) (σ : State) : Effect :=
  let T := σ.me.d rt
  let S := σ.me.d rs
  .ok [.d rd (~~~T ||| S)]

/-- The meaning of ORCD (R410). -/
def execOrcd (rt : Reg) (rs : Reg) (rd : Reg) (σ : State) : Host.Outcome State Fault Refusal :=
  solo (fxOrcd rt rs rd σ) σ

/-- ORID T.D,S.D,D.D (R411). -/
def fxOrid (rt : Reg) (rs : Reg) (rd : Reg) (σ : State) : Effect :=
  let T := σ.me.d rt
  let S := σ.me.d rs
  .ok [.d rd (~~~(T ||| S))]

/-- The meaning of ORID (R411). -/
def execOrid (rt : Reg) (rs : Reg) (rd : Reg) (σ : State) : Host.Outcome State Fault Refusal :=
  solo (fxOrid rt rs rd σ) σ

/-- EORD T.D,S.D,D.D (R412). -/
def fxEord (rt : Reg) (rs : Reg) (rd : Reg) (σ : State) : Effect :=
  let T := σ.me.d rt
  let S := σ.me.d rs
  .ok [.d rd (T ^^^ S)]

/-- The meaning of EORD (R412). -/
def execEord (rt : Reg) (rs : Reg) (rd : Reg) (σ : State) : Host.Outcome State Fault Refusal :=
  solo (fxEord rt rs rd σ) σ

/-- NOTD S.D,D.D (R413). -/
def fxNotd (rs : Reg) (rd : Reg) (σ : State) : Effect :=
  let S := σ.me.d rs
  .ok [.d rd (~~~S)]

/-- The meaning of NOTD (R413). -/
def execNotd (rs : Reg) (rd : Reg) (σ : State) : Host.Outcome State Fault Refusal :=
  solo (fxNotd rs rd σ) σ

/-- TRD S.D,D.D (R425). -/
def fxTrd (rs : Reg) (rd : Reg) (σ : State) : Effect :=
  let S := σ.me.d rs
  .ok [.d rd S]

/-- The meaning of TRD (R425). -/
def execTrd (rs : Reg) (rd : Reg) (σ : State) : Host.Outcome State Fault Refusal :=
  solo (fxTrd rs rd σ) σ

/-- PDNXL S.D,D (R427). -/
def fxPdnxl (rs : Reg) (rd : Reg) (σ : State) : Effect :=
  let S := σ.me.d rs
  .ok [.h rd (Config.pdnxl S)]

/-- The meaning of PDNXL (R427). -/
def execPdnxl (rs : Reg) (rd : Reg) (σ : State) : Host.Outcome State Fault Refusal :=
  solo (fxPdnxl rs rd σ) σ

/-- PDNDE S.D,D.L (R428). -/
def fxPdnde (rs : Reg) (rd : Reg) (σ : State) : Effect :=
  let S := σ.me.d rs
  .ok [.l rd (if S = 0 then 0 else Config.pdndeNonzero S)]

/-- The meaning of PDNDE (R428). -/
def execPdnde (rs : Reg) (rd : Reg) (σ : State) : Host.Outcome State Fault Refusal :=
  solo (fxPdnde rs rd σ) σ

/-- PDND S.D,D (R426). -/
def fxPdnd (rs : Reg) (rd : Reg) (σ : State) : Effect :=
  let S := σ.me.d rs
  .ok [.h rd (Config.pdn64 S)]

/-- The meaning of PDND (R426). -/
def execPdnd (rs : Reg) (rd : Reg) (σ : State) : Host.Outcome State Fault Refusal :=
  solo (fxPdnd rs rd σ) σ

/-- TRD S.D,D.D in the OP2 slot (R425). -/
def fxTrdB (rs : Reg) (rd : Reg) (σ : State) : Effect :=
  let S := σ.me.d rs
  .ok [.d rd S]

/-- The meaning of TRD (R425). -/
def execTrdB (rs : Reg) (rd : Reg) (σ : State) : Host.Outcome State Fault Refusal :=
  solo (fxTrdB rs rd σ) σ

/-- BTSTDi #5,S.D (R415). -/
def fxBtstdi (imm : BitVec 5) (rs : Reg) (σ : State) : Effect :=
  let S := σ.me.d rs
  .ok [.flagC (S.getLsbD imm.toNat)]

/-- The meaning of BTSTDi (R415). -/
def execBtstdi (imm : BitVec 5) (rs : Reg) (σ : State) : Host.Outcome State Fault Refusal :=
  solo (fxBtstdi imm rs σ) σ

/-- BTSTD T,S.D (R416). -/
def fxBtstd (rt : Reg) (rs : Reg) (σ : State) : Effect :=
  let T := σ.me.h rt
  let S := σ.me.d rs
  withAmount 63 T fun a => .ok [.flagC (S.getLsbD a)]

/-- The meaning of BTSTD (R416). -/
def execBtstd (rt : Reg) (rs : Reg) (σ : State) : Host.Outcome State Fault Refusal :=
  solo (fxBtstd rt rs σ) σ

end Sys2Proof.Machine
end

