-- ==== Sys2Proof/Machine/Compare.lean ====
section
/-! DEFINITION. Packed comparisons and extremum searches (47_compare_minmax.md). For each instruction `fx…`, the writes it makes from the
state before it, and its meaning `exec…`. -/

namespace Sys2Proof.Machine

/-- Two flags, flag 1 upper. -/
def flags2 (f : Nat → Bool) : BitVec 2 := BitVec.ofBool (f 1) ++ BitVec.ofBool (f 0)
/-- Four flags, flag 3 upper. -/
def flags4 (f : Nat → Bool) : BitVec 4 := flags2 (fun i => f (i + 2)) ++ flags2 f
/-- Eight flags, flag 7 upper. -/
def flags8 (f : Nat → Bool) : BitVec 8 := flags4 (fun i => f (i + 4)) ++ flags4 f

/-- What a search looks for. -/
inductive Extremum where
  | max
  | min
  deriving DecidableEq, Repr

/-- x is at least as extreme as y: `≥` for a maximum, `≤` for a minimum (47_compare_minmax.md R380 (e)). -/
def beats (e : Extremum) (x y : Int) : Bool :=
  match e with
  | .max => decide (y ≤ x)
  | .min => decide (x ≤ y)

/-- The extremum of s_0 .. s_count. -/
def extremum (e : Extremum) (s : Nat → Int) : Nat → Int
  | 0 => s 0
  | count + 1 => if beats e (s (count + 1)) (extremum e s count) then s (count + 1) else extremum e s count

/-- The lowest i from `start` among `count` candidates with `s_i = x`; 0 if there is none. -/
def lowestAt (s : Nat → Int) (x : Int) : Nat → Nat → Nat
  | 0, _ => 0
  | count + 1, start => if s start = x then start else lowestAt s x count (start + 1)

/-- The highest i below `count` with `s_i = x`; 0 if there is none. -/
def highestAt (s : Nat → Int) (x : Int) : Nat → Nat
  | 0 => 0
  | count + 1 => if s count = x then count else highestAt s x count

/-- `n_s`: the local number of the extremum, by CFG.MAXMIN_TIE (R380 (e)). -/
def localNumber (tie : Tie) (s : Nat → Int) (x : Int) (count : Nat) : Nat :=
  match tie with
  | .lowest => lowestAt s x count 0
  | .highest => highestAt s x count

/-- The running search over 16-bit parts: d3 the extremum, d0 the index (R389, R391, R393, R395).
Without a new extremum the value is the old D. DESIGN CHOICE (log entry 27): the instruction writes that back, so D counts
as written beside other parts (30_encoding.md R174) and for the DO restriction (70_reset_and_hazards.md R531). -/
def search16 (e : Extremum) (tie : Tie) (s : Nat → Int) (count : Nat) (t : Half) (d : Dbl) : Dbl :=
  let x := extremum e s (count - 1)
  if beats e x (sh d 3) then
    four16 (wrap 16 x) (hp d 2) (hp d 1) (t + BitVec.ofNat 16 (localNumber tie s x count))
  else d

/-- The running search over 32-bit parts: D1 the extremum, d0 the index (R390, R392, R394, R396).
Without a new extremum the value is the old D. DESIGN CHOICE (log entry 27): as for `search16`, D counts as written. -/
def search32 (e : Extremum) (tie : Tie) (s : Nat → Int) (count : Nat) (t : Half) (d : Dbl) : Dbl :=
  let x := extremum e s (count - 1)
  if beats e x (sw d 1) then
    wrap 32 x ++ hp d 1 ++ (t + BitVec.ofNat 16 (localNumber tie s x count))
  else d

/-- CMPN4 T.D,S.D,D.D (R381). -/
def fxCmpn4 (rt : Reg) (rs : Reg) (rd : Reg) (σ : State) : Effect :=
  let T := σ.me.d rt
  let S := σ.me.d rs
  let D := σ.me.d rd
  .ok [.d rd (flags4 (fun i => flagNeg (sh S i) (sh T i)) ++ D.extractLsb' 4 60)]

/-- The meaning of CMPN4 (R381). -/
def execCmpn4 (rt : Reg) (rs : Reg) (rd : Reg) (σ : State) : Host.Outcome State Fault Refusal :=
  solo (fxCmpn4 rt rs rd σ) σ

/-- CMPN8 T.Q,S.Q,D.Q (R383). -/
def fxCmpn8 (rt : Reg) (rs : Reg) (rd : Reg) (σ : State) : Effect :=
  let T := σ.me.q rt
  let S := σ.me.q rs
  let D := σ.me.q rd
  needQuad [rt, rs, rd] <|
    .ok [.q rd (flags8 (fun i => flagNeg (sh S i) (sh T i)) ++ D.extractLsb' 8 120)]

/-- The meaning of CMPN8 (R383). -/
def execCmpn8 (rt : Reg) (rs : Reg) (rd : Reg) (σ : State) : Host.Outcome State Fault Refusal :=
  solo (fxCmpn8 rt rs rd σ) σ

/-- CMPZ4 T.D,S.D,D.D (R382). -/
def fxCmpz4 (rt : Reg) (rs : Reg) (rd : Reg) (σ : State) : Effect :=
  let T := σ.me.d rt
  let S := σ.me.d rs
  let D := σ.me.d rd
  .ok [.d rd (flags4 (fun i => flagZero (sh S i) (sh T i)) ++ D.extractLsb' 4 60)]

/-- The meaning of CMPZ4 (R382). -/
def execCmpz4 (rt : Reg) (rs : Reg) (rd : Reg) (σ : State) : Host.Outcome State Fault Refusal :=
  solo (fxCmpz4 rt rs rd σ) σ

/-- CMPZ8 T.Q,S.Q,D.Q (R384). -/
def fxCmpz8 (rt : Reg) (rs : Reg) (rd : Reg) (σ : State) : Effect :=
  let T := σ.me.q rt
  let S := σ.me.q rs
  let D := σ.me.q rd
  needQuad [rt, rs, rd] <|
    .ok [.q rd (flags8 (fun i => flagZero (sh S i) (sh T i)) ++ D.extractLsb' 8 120)]

/-- The meaning of CMPZ8 (R384). -/
def execCmpz8 (rt : Reg) (rs : Reg) (rd : Reg) (σ : State) : Host.Outcome State Fault Refusal :=
  solo (fxCmpz8 rt rs rd σ) σ

/-- CMPNL2 T.D,S.D,D.D (R385). -/
def fxCmpnl2 (rt : Reg) (rs : Reg) (rd : Reg) (σ : State) : Effect :=
  let T := σ.me.d rt
  let S := σ.me.d rs
  let D := σ.me.d rd
  .ok [.d rd (flags2 (fun i => flagNeg (sw S i) (sw T i)) ++ D.extractLsb' 2 62)]

/-- The meaning of CMPNL2 (R385). -/
def execCmpnl2 (rt : Reg) (rs : Reg) (rd : Reg) (σ : State) : Host.Outcome State Fault Refusal :=
  solo (fxCmpnl2 rt rs rd σ) σ

/-- CMPNL4 T.Q,S.Q,D.Q (R387). -/
def fxCmpnl4 (rt : Reg) (rs : Reg) (rd : Reg) (σ : State) : Effect :=
  let T := σ.me.q rt
  let S := σ.me.q rs
  let D := σ.me.q rd
  needQuad [rt, rs, rd] <|
    .ok [.q rd (flags4 (fun i => flagNeg (sw S i) (sw T i)) ++ D.extractLsb' 4 124)]

/-- The meaning of CMPNL4 (R387). -/
def execCmpnl4 (rt : Reg) (rs : Reg) (rd : Reg) (σ : State) : Host.Outcome State Fault Refusal :=
  solo (fxCmpnl4 rt rs rd σ) σ

/-- CMPZL2 T.D,S.D,D.D (R386). -/
def fxCmpzl2 (rt : Reg) (rs : Reg) (rd : Reg) (σ : State) : Effect :=
  let T := σ.me.d rt
  let S := σ.me.d rs
  let D := σ.me.d rd
  .ok [.d rd (flags2 (fun i => flagZero (sw S i) (sw T i)) ++ D.extractLsb' 2 62)]

/-- The meaning of CMPZL2 (R386). -/
def execCmpzl2 (rt : Reg) (rs : Reg) (rd : Reg) (σ : State) : Host.Outcome State Fault Refusal :=
  solo (fxCmpzl2 rt rs rd σ) σ

/-- CMPZL4 T.Q,S.Q,D.Q (R388). -/
def fxCmpzl4 (rt : Reg) (rs : Reg) (rd : Reg) (σ : State) : Effect :=
  let T := σ.me.q rt
  let S := σ.me.q rs
  let D := σ.me.q rd
  needQuad [rt, rs, rd] <|
    .ok [.q rd (flags4 (fun i => flagZero (sw S i) (sw T i)) ++ D.extractLsb' 4 124)]

/-- The meaning of CMPZL4 (R388). -/
def execCmpzl4 (rt : Reg) (rs : Reg) (rd : Reg) (σ : State) : Host.Outcome State Fault Refusal :=
  solo (fxCmpzl4 rt rs rd σ) σ

/-- MAX4 T,S.D,D.D (R389). -/
def fxMax4 (rt : Reg) (rs : Reg) (rd : Reg) (σ : State) : Effect :=
  let T := σ.me.h rt
  let S := σ.me.d rs
  let D := σ.me.d rd
  .ok [.d rd (search16 .max σ.cfg.maxminTie (fun i => sh S i) 4 T D)]

/-- The meaning of MAX4 (R389). -/
def execMax4 (rt : Reg) (rs : Reg) (rd : Reg) (σ : State) : Host.Outcome State Fault Refusal :=
  solo (fxMax4 rt rs rd σ) σ

/-- MAX8 T,S.Q,D.D (R391). -/
def fxMax8 (rt : Reg) (rs : Reg) (rd : Reg) (σ : State) : Effect :=
  let T := σ.me.h rt
  let S := σ.me.q rs
  let D := σ.me.d rd
  needQuad [rs] <|
    .ok [.d rd (search16 .max σ.cfg.maxminTie (fun i => sh S i) 8 T D)]

/-- The meaning of MAX8 (R391). -/
def execMax8 (rt : Reg) (rs : Reg) (rd : Reg) (σ : State) : Host.Outcome State Fault Refusal :=
  solo (fxMax8 rt rs rd σ) σ

/-- MIN4 T,S.D,D.D (R393). -/
def fxMin4 (rt : Reg) (rs : Reg) (rd : Reg) (σ : State) : Effect :=
  let T := σ.me.h rt
  let S := σ.me.d rs
  let D := σ.me.d rd
  .ok [.d rd (search16 .min σ.cfg.maxminTie (fun i => sh S i) 4 T D)]

/-- The meaning of MIN4 (R393). -/
def execMin4 (rt : Reg) (rs : Reg) (rd : Reg) (σ : State) : Host.Outcome State Fault Refusal :=
  solo (fxMin4 rt rs rd σ) σ

/-- MIN8 T,S.Q,D.D (R395). -/
def fxMin8 (rt : Reg) (rs : Reg) (rd : Reg) (σ : State) : Effect :=
  let T := σ.me.h rt
  let S := σ.me.q rs
  let D := σ.me.d rd
  needQuad [rs] <|
    .ok [.d rd (search16 .min σ.cfg.maxminTie (fun i => sh S i) 8 T D)]

/-- The meaning of MIN8 (R395). -/
def execMin8 (rt : Reg) (rs : Reg) (rd : Reg) (σ : State) : Host.Outcome State Fault Refusal :=
  solo (fxMin8 rt rs rd σ) σ

/-- MAXL2 T,S.D,D.D (R390). -/
def fxMaxl2 (rt : Reg) (rs : Reg) (rd : Reg) (σ : State) : Effect :=
  let T := σ.me.h rt
  let S := σ.me.d rs
  let D := σ.me.d rd
  .ok [.d rd (search32 .max σ.cfg.maxminTie (fun i => sw S i) 2 T D)]

/-- The meaning of MAXL2 (R390). -/
def execMaxl2 (rt : Reg) (rs : Reg) (rd : Reg) (σ : State) : Host.Outcome State Fault Refusal :=
  solo (fxMaxl2 rt rs rd σ) σ

/-- MAXL4 T,S.Q,D.D (R392). -/
def fxMaxl4 (rt : Reg) (rs : Reg) (rd : Reg) (σ : State) : Effect :=
  let T := σ.me.h rt
  let S := σ.me.q rs
  let D := σ.me.d rd
  needQuad [rs] <|
    .ok [.d rd (search32 .max σ.cfg.maxminTie (fun i => sw S i) 4 T D)]

/-- The meaning of MAXL4 (R392). -/
def execMaxl4 (rt : Reg) (rs : Reg) (rd : Reg) (σ : State) : Host.Outcome State Fault Refusal :=
  solo (fxMaxl4 rt rs rd σ) σ

/-- MINL2 T,S.D,D.D (R394). -/
def fxMinl2 (rt : Reg) (rs : Reg) (rd : Reg) (σ : State) : Effect :=
  let T := σ.me.h rt
  let S := σ.me.d rs
  let D := σ.me.d rd
  .ok [.d rd (search32 .min σ.cfg.maxminTie (fun i => sw S i) 2 T D)]

/-- The meaning of MINL2 (R394). -/
def execMinl2 (rt : Reg) (rs : Reg) (rd : Reg) (σ : State) : Host.Outcome State Fault Refusal :=
  solo (fxMinl2 rt rs rd σ) σ

/-- MINL4 T,S.Q,D.D (R396). -/
def fxMinl4 (rt : Reg) (rs : Reg) (rd : Reg) (σ : State) : Effect :=
  let T := σ.me.h rt
  let S := σ.me.q rs
  let D := σ.me.d rd
  needQuad [rs] <|
    .ok [.d rd (search32 .min σ.cfg.maxminTie (fun i => sw S i) 4 T D)]

/-- The meaning of MINL4 (R396). -/
def execMinl4 (rt : Reg) (rs : Reg) (rd : Reg) (σ : State) : Host.Outcome State Fault Refusal :=
  solo (fxMinl4 rt rs rd σ) σ

end Sys2Proof.Machine
end

