-- ==== Sys2Proof/Machine/Control.lean ====
section
/-! DEFINITION. NOP, the moves of formats 9a, 9b, 9d, and RTI (40_moves.md, 41_control_and_changed_results.md). For each instruction `fx…`, the writes it makes from the
state before it, and its meaning `exec…`. -/

namespace Sys2Proof.Machine

/-- NOP (R210). -/
def fxNop (_σ : State) : Effect :=
  .ok []

/-- The meaning of NOP (R210). -/
def execNop (σ : State) : Host.Outcome State Fault Refusal :=
  solo (fxNop σ) σ

/-- NOP (R210). -/
def fxNopHi (_σ : State) : Effect :=
  .ok []

/-- The meaning of NOP (R210). -/
def execNopHi (σ : State) : Host.Outcome State Fault Refusal :=
  solo (fxNopHi σ) σ

/-- NOP (R210). -/
def fxNopB (_σ : State) : Effect :=
  .ok []

/-- The meaning of NOP (R210). -/
def execNopB (σ : State) : Host.Outcome State Fault Refusal :=
  solo (fxNopB σ) σ

/-- NOP (R210). -/
def fxNopBHi (_σ : State) : Effect :=
  .ok []

/-- The meaning of NOP (R210). -/
def execNopBHi (σ : State) : Host.Outcome State Fault Refusal :=
  solo (fxNopBHi σ) σ

/-- NOP (R210). -/
def fxNopBMid (_σ : State) : Effect :=
  .ok []

/-- The meaning of NOP (R210). -/
def execNopBMid (σ : State) : Host.Outcome State Fault Refusal :=
  solo (fxNopBMid σ) σ

/-- MOVE9a.X, move 1 of format 9a (40_moves.md R181). -/
def fxMove9aX (r : BitVec 4) (u : Bool) (mode a : BitVec 3) (de : Bool) (σ : State) : Effect := moveX σ r u mode a de

/-- The meaning of MOVE9a.X (R181). -/
def execMove9aX (r : BitVec 4) (u : Bool) (mode a : BitVec 3) (de : Bool) (σ : State) :
    Host.Outcome State Fault Refusal :=
  solo (fxMove9aX r u mode a de σ) σ

/-- MOVE9a.Y, move 2 of format 9a (R182). -/
def fxMove9aY (aT : BitVec 2) (u : Bool) (σ : State) : Effect := moveY σ aT u

/-- The meaning of MOVE9a.Y (R182). -/
def execMove9aY (aT : BitVec 2) (u : Bool) (σ : State) : Host.Outcome State Fault Refusal :=
  solo (fxMove9aY aT u σ) σ

/-- MOVE9b.R, move 1 of format 9b (R189). -/
def fxMove9bR (rs rd : Reg) (l : Bool) (σ : State) : Effect :=
  if l then needQuad [rs, rd] (.ok [.q rd (σ.me.q rs)]) else .ok [.d rd (σ.me.d rs)]

/-- The meaning of MOVE9b.R (R189). -/
def execMove9bR (rs rd : Reg) (l : Bool) (σ : State) : Host.Outcome State Fault Refusal :=
  solo (fxMove9bR rs rd l σ) σ

/-- MOVE9b.Y, move 2 of format 9b (R190). -/
def fxMove9bY (aT : BitVec 2) (u : Bool) (σ : State) : Effect := moveY σ aT u

/-- The meaning of MOVE9b.Y (R190). -/
def execMove9bY (aT : BitVec 2) (u : Bool) (σ : State) : Host.Outcome State Fault Refusal :=
  solo (fxMove9bY aT u σ) σ

/-- MOVE9d.RC, the move of format 9d (R191..R196). -/
def fxMove9dRC (rr : Reg) (rc : CReg) (l de : Bool) (σ : State) : Effect := move9d σ rr rc l de

/-- The meaning of MOVE9d.RC; a synchronous-mode XBUF access that must wait holds the instruction (R193). -/
def execMove9dRC (rr : Reg) (rc : CReg) (l de : Bool) (σ : State) : Host.Outcome State Fault Refusal :=
  soloOrHold (.bundle (.f9d .nop .nopB rr rc l de)) (fxMove9dRC rr rc l de σ) σ

/-- RTI (41_control_and_changed_results.md R211): with the condition "always" it returns; another condition is not in
the source. -/
def fxRti (cc : BitVec 4) (σ : State) : Effect :=
  if cc = σ.cfg.ccAlways then .ok [.leave] else .error .rtiCondition

/-- The meaning of RTI (R211). -/
def execRti (cc : BitVec 4) (σ : State) : Host.Outcome State Fault Refusal := solo (fxRti cc σ) σ

end Sys2Proof.Machine
end

