-- ==== Sys2Proof/Machine/Float.lean ====
section
/-! DEFINITION. Floating point: FM2, FMS2, FASX, FASXS, FSA, FAX, FSX (42_fp.md). float32 arithmetic is uninterpreted (R230). For each instruction `fx…`, the writes it makes from the
state before it, and its meaning `exec…`. -/

namespace Sys2Proof.Machine

/-- FASX T.D,S.D,D.Q (R233). -/
def fxFasx (rt : Reg) (rs : Reg) (rd : Reg) (σ : State) : Effect :=
  let T := σ.me.d rt
  let S := σ.me.d rs
  needQuad [rd] <|
    .ok [.q rd (four32 (Config.fsub32 (wp S 1) (wp T 1)) (Config.fsub32 (wp S 0) (wp T 0))
      (Config.fadd32 (wp S 1) (wp T 1)) (Config.fadd32 (wp S 0) (wp T 0)))]

/-- The meaning of FASX (R233). -/
def execFasx (rt : Reg) (rs : Reg) (rd : Reg) (σ : State) : Host.Outcome State Fault Refusal :=
  solo (fxFasx rt rs rd σ) σ

/-- FASXS T.D,S.D,D.Q (R234). -/
def fxFasxs (rt : Reg) (rs : Reg) (rd : Reg) (σ : State) : Effect :=
  let T := σ.me.d rt
  let S := σ.me.d rs
  needQuad [rd] <|
    .ok [.q rd (four32 (Config.fsub32 (wp S 1) (wp T 0)) (Config.fadd32 (wp S 0) (wp T 1))
      (Config.fadd32 (wp S 1) (wp T 0)) (Config.fsub32 (wp S 0) (wp T 1)))]

/-- The meaning of FASXS (R234). -/
def execFasxs (rt : Reg) (rs : Reg) (rd : Reg) (σ : State) : Host.Outcome State Fault Refusal :=
  solo (fxFasxs rt rs rd σ) σ

/-- FAX T.D,S.D,D.D (R236). -/
def fxFax (rt : Reg) (rs : Reg) (rd : Reg) (σ : State) : Effect :=
  let T := σ.me.d rt
  let S := σ.me.d rs
  .ok [.d rd (two32 (Config.fadd32 (wp S 1) (wp T 1)) (Config.fadd32 (wp S 0) (wp T 0)))]

/-- The meaning of FAX (R236). -/
def execFax (rt : Reg) (rs : Reg) (rd : Reg) (σ : State) : Host.Outcome State Fault Refusal :=
  solo (fxFax rt rs rd σ) σ

/-- FSX T.D,S.D,D.D (R237). -/
def fxFsx (rt : Reg) (rs : Reg) (rd : Reg) (σ : State) : Effect :=
  let T := σ.me.d rt
  let S := σ.me.d rs
  .ok [.d rd (two32 (Config.fsub32 (wp S 1) (wp T 1)) (Config.fsub32 (wp S 0) (wp T 0)))]

/-- The meaning of FSX (R237). -/
def execFsx (rt : Reg) (rs : Reg) (rd : Reg) (σ : State) : Host.Outcome State Fault Refusal :=
  solo (fxFsx rt rs rd σ) σ

/-- FSA T.D,S.D,D.D (R235). -/
def fxFsa (rt : Reg) (rs : Reg) (rd : Reg) (σ : State) : Effect :=
  let T := σ.me.d rt
  let S := σ.me.d rs
  .ok [.d rd (two32 (Config.fsub32 (wp T 1) (wp T 0)) (Config.fadd32 (wp S 1) (wp S 0)))]

/-- The meaning of FSA (R235). -/
def execFsa (rt : Reg) (rs : Reg) (rd : Reg) (σ : State) : Host.Outcome State Fault Refusal :=
  solo (fxFsa rt rs rd σ) σ

/-- FM2 T.D,S.D,D.D (R231). -/
def fxFm2 (rt : Reg) (rs : Reg) (rd : Reg) (σ : State) : Effect :=
  let T := σ.me.d rt
  let S := σ.me.d rs
  .ok [.d rd (two32 (Config.fmul32 (wp T 1) (wp S 1)) (Config.fmul32 (wp T 0) (wp S 0)))]

/-- The meaning of FM2 (R231). -/
def execFm2 (rt : Reg) (rs : Reg) (rd : Reg) (σ : State) : Host.Outcome State Fault Refusal :=
  solo (fxFm2 rt rs rd σ) σ

/-- FMS2 T.D,S.D,D.D (R232). -/
def fxFms2 (rt : Reg) (rs : Reg) (rd : Reg) (σ : State) : Effect :=
  let T := σ.me.d rt
  let S := σ.me.d rs
  .ok [.d rd (two32 (Config.fmul32 (wp T 1) (wp S 0)) (Config.fmul32 (wp T 0) (wp S 1)))]

/-- The meaning of FMS2 (R232). -/
def execFms2 (rt : Reg) (rs : Reg) (rd : Reg) (σ : State) : Host.Outcome State Fault Refusal :=
  solo (fxFms2 rt rs rd σ) σ

end Sys2Proof.Machine
end

