-- ==== Sys2Proof/Machine/Multiply.lean ====
section
/-! DEFINITION. The fixed-point multiplier without accumulation (43_mul_fixed.md). For each instruction `fx…`, the
writes it makes from the state before it, and its meaning `exec…`. -/

namespace Sys2Proof.Machine

/-- The real part of a fractional complex product (43_mul_fixed.md section 4, R252). -/
def cmulRe (r : Rounding) (tre tim sre sim : Half) : Half := fsum16 r (fprod tre sre - fprod tim sim)
/-- The imaginary part of a fractional complex product (R252). -/
def cmulIm (r : Rounding) (tre tim sre sim : Half) : Half := fsum16 r (fprod tre sim + fprod tim sre)
/-- The real part of a product with the conjugate of S (R253). -/
def cmulConjRe (r : Rounding) (tre tim sre sim : Half) : Half := fsum16 r (fprod tre sre + fprod tim sim)
/-- The imaginary part of a product with the conjugate of S (R253). -/
def cmulConjIm (r : Rounding) (tre tim sre sim : Half) : Half := fsum16 r (fprod tim sre - fprod tre sim)

/-- MFX T.L,S.L,D.L (R254). -/
def fxMfx (rt : Reg) (rs : Reg) (rd : Reg) (σ : State) : Effect :=
  let T := σ.me.l rt
  let S := σ.me.l rs
  let r := σ.cfg.rounding
  .ok [.l rd (two16 (cmulRe r (hp T 1) (hp T 0) (hp S 1) (hp S 0)) (cmulIm r (hp T 1) (hp T 0) (hp S 1) (hp S 0)))]

/-- The meaning of MFX (R254). -/
def execMfx (rt : Reg) (rs : Reg) (rd : Reg) (σ : State) : Host.Outcome State Fault Refusal :=
  solo (fxMfx rt rs rd σ) σ

/-- MFXC T.L,S.L,D.L (R255). -/
def fxMfxc (rt : Reg) (rs : Reg) (rd : Reg) (σ : State) : Effect :=
  let T := σ.me.l rt
  let S := σ.me.l rs
  let r := σ.cfg.rounding
  .ok [.l rd (two16 (cmulConjRe r (hp T 1) (hp T 0) (hp S 1) (hp S 0))
      (cmulConjIm r (hp T 1) (hp T 0) (hp S 1) (hp S 0)))]

/-- The meaning of MFXC (R255). -/
def execMfxc (rt : Reg) (rs : Reg) (rd : Reg) (σ : State) : Host.Outcome State Fault Refusal :=
  solo (fxMfxc rt rs rd σ) σ

/-- MFX2 T.D,S.D,D.D (R252). -/
def fxMfx2 (rt : Reg) (rs : Reg) (rd : Reg) (σ : State) : Effect :=
  let T := σ.me.d rt
  let S := σ.me.d rs
  let r := σ.cfg.rounding
  .ok [.d rd (four16 (cmulRe r (hp T 3) (hp T 2) (hp S 3) (hp S 2)) (cmulIm r (hp T 3) (hp T 2) (hp S 3) (hp S 2))
      (cmulRe r (hp T 1) (hp T 0) (hp S 1) (hp S 0)) (cmulIm r (hp T 1) (hp T 0) (hp S 1) (hp S 0)))]

/-- The meaning of MFX2 (R252). -/
def execMfx2 (rt : Reg) (rs : Reg) (rd : Reg) (σ : State) : Host.Outcome State Fault Refusal :=
  solo (fxMfx2 rt rs rd σ) σ

/-- MFXC2 T.D,S.D,D.D (R253). -/
def fxMfxc2 (rt : Reg) (rs : Reg) (rd : Reg) (σ : State) : Effect :=
  let T := σ.me.d rt
  let S := σ.me.d rs
  let r := σ.cfg.rounding
  .ok [.d rd (four16 (cmulConjRe r (hp T 3) (hp T 2) (hp S 3) (hp S 2))
      (cmulConjIm r (hp T 3) (hp T 2) (hp S 3) (hp S 2))
      (cmulConjRe r (hp T 1) (hp T 0) (hp S 1) (hp S 0)) (cmulConjIm r (hp T 1) (hp T 0) (hp S 1) (hp S 0)))]

/-- The meaning of MFXC2 (R253). -/
def execMfxc2 (rt : Reg) (rs : Reg) (rd : Reg) (σ : State) : Host.Outcome State Fault Refusal :=
  solo (fxMfxc2 rt rs rd σ) σ

/-- MF4 T.D,S.D,D.D (R251). -/
def fxMf4 (rt : Reg) (rs : Reg) (rd : Reg) (σ : State) : Effect :=
  let T := σ.me.d rt
  let S := σ.me.d rs
  .ok [.d rd (map4h fun i => fmul16 σ.cfg.rounding σ.me.sat (hp T i) (hp S i))]

/-- The meaning of MF4 (R251). -/
def execMf4 (rt : Reg) (rs : Reg) (rd : Reg) (σ : State) : Host.Outcome State Fault Refusal :=
  solo (fxMf4 rt rs rd σ) σ

/-- MF8 T.Q,S.Q,D.Q (R250). -/
def fxMf8 (rt : Reg) (rs : Reg) (rd : Reg) (σ : State) : Effect :=
  let T := σ.me.q rt
  let S := σ.me.q rs
  needQuad [rt, rs, rd] <|
    .ok [.q rd (map8h fun i => fmul16 σ.cfg.rounding σ.me.sat (hp T i) (hp S i))]

/-- The meaning of MF8 (R250). -/
def execMf8 (rt : Reg) (rs : Reg) (rd : Reg) (σ : State) : Host.Outcome State Fault Refusal :=
  solo (fxMf8 rt rs rd σ) σ

/-- ML2 T.D,S.D,D.Q (R247). -/
def fxMl2 (rt : Reg) (rs : Reg) (rd : Reg) (σ : State) : Effect :=
  let T := σ.me.d rt
  let S := σ.me.d rs
  needQuad [rd] <|
    .ok [.q rd (two64 (wrap 64 (sw T 1 * sw S 1)) (wrap 64 (sw T 0 * sw S 0)))]

/-- The meaning of ML2 (R247). -/
def execMl2 (rt : Reg) (rs : Reg) (rd : Reg) (σ : State) : Host.Outcome State Fault Refusal :=
  solo (fxMl2 rt rs rd σ) σ

/-- UML T.L,S.L,D.D (R249). -/
def fxUml (rt : Reg) (rs : Reg) (rd : Reg) (σ : State) : Effect :=
  let T := σ.me.l rt
  let S := σ.me.l rs
  .ok [.d rd (wrap 64 ((T.toNat : Int) * S.toNat))]

/-- The meaning of UML (R249). -/
def execUml (rt : Reg) (rs : Reg) (rd : Reg) (σ : State) : Host.Outcome State Fault Refusal :=
  solo (fxUml rt rs rd σ) σ

/-- UML2 T.D,S.D,D.Q (R248). -/
def fxUml2 (rt : Reg) (rs : Reg) (rd : Reg) (σ : State) : Effect :=
  let T := σ.me.d rt
  let S := σ.me.d rs
  needQuad [rd] <|
    .ok [.q rd (two64 (wrap 64 (sw T 1 * (wp S 1).toNat)) (wrap 64 (sw T 0 * (wp S 0).toNat)))]

/-- The meaning of UML2 (R248). -/
def execUml2 (rt : Reg) (rs : Reg) (rd : Reg) (σ : State) : Host.Outcome State Fault Refusal :=
  solo (fxUml2 rt rs rd σ) σ

/-- MFA81 T.Q,S.Q,D (R256). -/
def fxMfa81 (rt : Reg) (rs : Reg) (rd : Reg) (σ : State) : Effect :=
  let T := σ.me.q rt
  let S := σ.me.q rs
  needQuad [rt, rs] <|
    .ok [.h rd (fsum16 σ.cfg.rounding (sumProd T S 0 8))]

/-- The meaning of MFA81 (R256). -/
def execMfa81 (rt : Reg) (rs : Reg) (rd : Reg) (σ : State) : Host.Outcome State Fault Refusal :=
  solo (fxMfa81 rt rs rd σ) σ

/-- MFA41 T.D,S.D,D (R258). -/
def fxMfa41 (rt : Reg) (rs : Reg) (rd : Reg) (σ : State) : Effect :=
  let T := σ.me.d rt
  let S := σ.me.d rs
  .ok [.h rd (fsum16 σ.cfg.rounding (sumProd T S 0 4))]

/-- The meaning of MFA41 (R258). -/
def execMfa41 (rt : Reg) (rs : Reg) (rd : Reg) (σ : State) : Host.Outcome State Fault Refusal :=
  solo (fxMfa41 rt rs rd σ) σ

/-- MFA42 T.Q,S.Q,D.L (R257). -/
def fxMfa42 (rt : Reg) (rs : Reg) (rd : Reg) (σ : State) : Effect :=
  let T := σ.me.q rt
  let S := σ.me.q rs
  needQuad [rt, rs] <|
    .ok [.l rd (two16 (fsum16 σ.cfg.rounding (sumProd T S 4 4)) (fsum16 σ.cfg.rounding (sumProd T S 0 4)))]

/-- The meaning of MFA42 (R257). -/
def execMfa42 (rt : Reg) (rs : Reg) (rd : Reg) (σ : State) : Host.Outcome State Fault Refusal :=
  solo (fxMfa42 rt rs rd σ) σ

/-- MFA21 T.L,S.L,D (R261). -/
def fxMfa21 (rt : Reg) (rs : Reg) (rd : Reg) (σ : State) : Effect :=
  let T := σ.me.l rt
  let S := σ.me.l rs
  .ok [.h rd (fsum16 σ.cfg.rounding (sumProd T S 0 2))]

/-- The meaning of MFA21 (R261). -/
def execMfa21 (rt : Reg) (rs : Reg) (rd : Reg) (σ : State) : Host.Outcome State Fault Refusal :=
  solo (fxMfa21 rt rs rd σ) σ

/-- MFA22 T.D,S.D,D.L (R260). -/
def fxMfa22 (rt : Reg) (rs : Reg) (rd : Reg) (σ : State) : Effect :=
  let T := σ.me.d rt
  let S := σ.me.d rs
  .ok [.l rd (map2h fun i => fsum16 σ.cfg.rounding (sumProd T S (2 * i) 2))]

/-- The meaning of MFA22 (R260). -/
def execMfa22 (rt : Reg) (rs : Reg) (rd : Reg) (σ : State) : Host.Outcome State Fault Refusal :=
  solo (fxMfa22 rt rs rd σ) σ

/-- MFA24 T.Q,S.Q,D.D (R259). -/
def fxMfa24 (rt : Reg) (rs : Reg) (rd : Reg) (σ : State) : Effect :=
  let T := σ.me.q rt
  let S := σ.me.q rs
  needQuad [rt, rs] <|
    .ok [.d rd (map4h fun i => fsum16 σ.cfg.rounding (sumProd T S (2 * i) 2))]

/-- The meaning of MFA24 (R259). -/
def execMfa24 (rt : Reg) (rs : Reg) (rd : Reg) (σ : State) : Host.Outcome State Fault Refusal :=
  solo (fxMfa24 rt rs rd σ) σ

/-- M4 T.D,S.D,D.Q (R262). -/
def fxM4 (rt : Reg) (rs : Reg) (rd : Reg) (σ : State) : Effect :=
  let T := σ.me.d rt
  let S := σ.me.d rs
  needQuad [rd] <|
    .ok [.q rd (map4w fun i => wrap 32 (fprod (hp T i) (hp S i)))]

/-- The meaning of M4 (R262). -/
def execM4 (rt : Reg) (rs : Reg) (rd : Reg) (σ : State) : Host.Outcome State Fault Refusal :=
  solo (fxM4 rt rs rd σ) σ

/-- M2 T.L,S.L,D.D (R263). -/
def fxM2 (rt : Reg) (rs : Reg) (rd : Reg) (σ : State) : Effect :=
  let T := σ.me.l rt
  let S := σ.me.l rs
  .ok [.d rd (map2w fun i => wrap 32 (fprod (hp T i) (hp S i)))]

/-- The meaning of M2 (R263). -/
def execM2 (rt : Reg) (rs : Reg) (rd : Reg) (σ : State) : Host.Outcome State Fault Refusal :=
  solo (fxM2 rt rs rd σ) σ

end Sys2Proof.Machine
end

