-- ==== Sys2Proof/Machine/Packed.lean ====
section
/-! DEFINITION. The packed fixed-point ALU (46_alu_packed.md). For each instruction `fx…`, the writes it makes from the
state before it, and its meaning `exec…`. -/

namespace Sys2Proof.Machine

/-- The sum of `count` 16-bit parts from part `start` up (46_alu_packed.md R352..R354). -/
def sumParts {n : Nat} (s : BitVec n) (start : Nat) : Nat → Int
  | 0 => 0
  | count + 1 => sumParts s start count + sh s (start + count)
/-- `sum of s_i - t_i` over the lowest `count` lanes (R360). -/
def runSum {n : Nat} (t s : BitVec n) : Nat → Int
  | 0 => 0
  | count + 1 => runSum t s count + sh s count - sh t count

/-- ASX2 T.D,S.D,D.Q (R357). -/
def fxAsx2 (rt : Reg) (rs : Reg) (rd : Reg) (σ : State) : Effect :=
  let T := σ.me.d rt
  let S := σ.me.d rs
  needQuad [rd] <|
    withScale σ false false fun k => .ok [.q rd (eight16
      (lane16 σ k (sh S 3 - sh T 3)) (lane16 σ k (sh S 2 - sh T 2)) (lane16 σ k (sh S 3 + sh T 3))
      (lane16 σ k (sh S 2 + sh T 2)) (lane16 σ k (sh S 1 - sh T 1)) (lane16 σ k (sh S 0 - sh T 0))
      (lane16 σ k (sh S 1 + sh T 1)) (lane16 σ k (sh S 0 + sh T 0)))]

/-- The meaning of ASX2 (R357). -/
def execAsx2 (rt : Reg) (rs : Reg) (rd : Reg) (σ : State) : Host.Outcome State Fault Refusal :=
  solo (fxAsx2 rt rs rd σ) σ

/-- ASXS T.L,S.L,D.D (R359). -/
def fxAsxs (rt : Reg) (rs : Reg) (rd : Reg) (σ : State) : Effect :=
  let T := σ.me.l rt
  let S := σ.me.l rs
  withScale σ false false fun k => .ok [.d rd (four16
      (lane16 σ k (sh S 1 - sh T 0)) (lane16 σ k (sh S 0 + sh T 1)) (lane16 σ k (sh S 1 + sh T 0))
      (lane16 σ k (sh S 0 - sh T 1)))]

/-- The meaning of ASXS (R359). -/
def execAsxs (rt : Reg) (rs : Reg) (rd : Reg) (σ : State) : Host.Outcome State Fault Refusal :=
  solo (fxAsxs rt rs rd σ) σ

/-- ASXS2 T.D,S.D,D.Q (R358). -/
def fxAsxs2 (rt : Reg) (rs : Reg) (rd : Reg) (σ : State) : Effect :=
  let T := σ.me.d rt
  let S := σ.me.d rs
  needQuad [rd] <|
    withScale σ false false fun k => .ok [.q rd (eight16
      (lane16 σ k (sh S 3 - sh T 2)) (lane16 σ k (sh S 2 + sh T 3)) (lane16 σ k (sh S 1 - sh T 0))
      (lane16 σ k (sh S 0 + sh T 1)) (lane16 σ k (sh S 3 + sh T 2)) (lane16 σ k (sh S 2 - sh T 3))
      (lane16 σ k (sh S 1 + sh T 0)) (lane16 σ k (sh S 0 - sh T 1)))]

/-- The meaning of ASXS2 (R358). -/
def execAsxs2 (rt : Reg) (rs : Reg) (rd : Reg) (σ : State) : Host.Outcome State Fault Refusal :=
  solo (fxAsxs2 rt rs rd σ) σ

/-- A4 T.D,S.D,D.D (R344). -/
def fxA4 (rt : Reg) (rs : Reg) (rd : Reg) (σ : State) : Effect :=
  let T := σ.me.d rt
  let S := σ.me.d rs
  withScale σ false false fun k => .ok [.d rd (map4h fun i => lane16 σ k (sh S i + sh T i))]

/-- The meaning of A4 (R344). -/
def execA4 (rt : Reg) (rs : Reg) (rd : Reg) (σ : State) : Host.Outcome State Fault Refusal :=
  solo (fxA4 rt rs rd σ) σ

/-- A8 T.Q,S.Q,D.Q (R341). -/
def fxA8 (rt : Reg) (rs : Reg) (rd : Reg) (σ : State) : Effect :=
  let T := σ.me.q rt
  let S := σ.me.q rs
  needQuad [rt, rs, rd] <|
    withScale σ false false fun k => .ok [.q rd (map8h fun i => lane16 σ k (sh S i + sh T i))]

/-- The meaning of A8 (R341). -/
def execA8 (rt : Reg) (rs : Reg) (rd : Reg) (σ : State) : Host.Outcome State Fault Refusal :=
  solo (fxA8 rt rs rd σ) σ

/-- S4 T.D,S.D,D.D (R345). -/
def fxS4 (rt : Reg) (rs : Reg) (rd : Reg) (σ : State) : Effect :=
  let T := σ.me.d rt
  let S := σ.me.d rs
  withScale σ false false fun k => .ok [.d rd (map4h fun i => lane16 σ k (sh S i - sh T i))]

/-- The meaning of S4 (R345). -/
def execS4 (rt : Reg) (rs : Reg) (rd : Reg) (σ : State) : Host.Outcome State Fault Refusal :=
  solo (fxS4 rt rs rd σ) σ

/-- S8 T.Q,S.Q,D.Q (R342). -/
def fxS8 (rt : Reg) (rs : Reg) (rd : Reg) (σ : State) : Effect :=
  let T := σ.me.q rt
  let S := σ.me.q rs
  needQuad [rt, rs, rd] <|
    withScale σ false false fun k => .ok [.q rd (map8h fun i => lane16 σ k (sh S i - sh T i))]

/-- The meaning of S8 (R342). -/
def execS8 (rt : Reg) (rs : Reg) (rd : Reg) (σ : State) : Host.Outcome State Fault Refusal :=
  solo (fxS8 rt rs rd σ) σ

/-- RA4 T.D,S.D,D.D (R361). -/
def fxRa4 (rt : Reg) (rs : Reg) (rd : Reg) (σ : State) : Effect :=
  let T := σ.me.d rt
  let S := σ.me.d rs
  let D := σ.me.d rd
  .ok [.d rd (map4h fun i => wrap 16 (sh D 0 + runSum T S (i + 1)))]

/-- The meaning of RA4 (R361). -/
def execRa4 (rt : Reg) (rs : Reg) (rd : Reg) (σ : State) : Host.Outcome State Fault Refusal :=
  solo (fxRa4 rt rs rd σ) σ

/-- RA8 T.Q,S.Q,D.Q (R360). -/
def fxRa8 (rt : Reg) (rs : Reg) (rd : Reg) (σ : State) : Effect :=
  let T := σ.me.q rt
  let S := σ.me.q rs
  let D := σ.me.q rd
  needQuad [rt, rs, rd] <|
    .ok [.q rd (map8h fun i => wrap 16 (sh D 0 + runSum T S (i + 1)))]

/-- The meaning of RA8 (R360). -/
def execRa8 (rt : Reg) (rs : Reg) (rd : Reg) (σ : State) : Host.Outcome State Fault Refusal :=
  solo (fxRa8 rt rs rd σ) σ

/-- SGA4 T.D,S.D,D.D (R363). -/
def fxSga4 (rt : Reg) (rs : Reg) (rd : Reg) (σ : State) : Effect :=
  let T := σ.me.d rt
  let S := σ.me.d rs
  let D := σ.me.d rd
  withScale σ false false fun k => .ok [.d rd (map4h fun i => lane16 σ k (sh D i + signedPart T S i))]

/-- The meaning of SGA4 (R363). -/
def execSga4 (rt : Reg) (rs : Reg) (rd : Reg) (σ : State) : Host.Outcome State Fault Refusal :=
  solo (fxSga4 rt rs rd σ) σ

/-- SGA8 T.Q,S.Q,D.Q (R362). -/
def fxSga8 (rt : Reg) (rs : Reg) (rd : Reg) (σ : State) : Effect :=
  let T := σ.me.q rt
  let S := σ.me.q rs
  let D := σ.me.q rd
  needQuad [rt, rs, rd] <|
    withScale σ false false fun k => .ok [.q rd (map8h fun i => lane16 σ k (sh D i + signedPart T S i))]

/-- The meaning of SGA8 (R362). -/
def execSga8 (rt : Reg) (rs : Reg) (rd : Reg) (σ : State) : Host.Outcome State Fault Refusal :=
  solo (fxSga8 rt rs rd σ) σ

/-- A8s T.Q,S.Q,D.Q (R364). -/
def fxA8s (rt : Reg) (rs : Reg) (rd : Reg) (σ : State) : Effect :=
  let T := σ.me.q rt
  let S := σ.me.q rs
  needQuad [rt, rs, rd] <|
    withScale σ true false fun k => .ok [.q rd (map8h fun i => lane16 σ k (sh S i + sh T i))]

/-- The meaning of A8s (R364). -/
def execA8s (rt : Reg) (rs : Reg) (rd : Reg) (σ : State) : Host.Outcome State Fault Refusal :=
  solo (fxA8s rt rs rd σ) σ

/-- MS2 T.L,S.L,D.L (R347). -/
def fxMs2 (rt : Reg) (rs : Reg) (rd : Reg) (σ : State) : Effect :=
  let T := σ.me.l rt
  let S := σ.me.l rs
  withScale σ false false fun k => .ok [.l rd (map2h fun i => lane16 σ k |sh S i - sh T i|)]

/-- The meaning of MS2 (R347). -/
def execMs2 (rt : Reg) (rs : Reg) (rd : Reg) (σ : State) : Host.Outcome State Fault Refusal :=
  solo (fxMs2 rt rs rd σ) σ

/-- MS4 T.D,S.D,D.D (R346). -/
def fxMs4 (rt : Reg) (rs : Reg) (rd : Reg) (σ : State) : Effect :=
  let T := σ.me.d rt
  let S := σ.me.d rs
  withScale σ false false fun k => .ok [.d rd (map4h fun i => lane16 σ k |sh S i - sh T i|)]

/-- The meaning of MS4 (R346). -/
def execMs4 (rt : Reg) (rs : Reg) (rd : Reg) (σ : State) : Host.Outcome State Fault Refusal :=
  solo (fxMs4 rt rs rd σ) σ

/-- MS8 T.Q,S.Q,D.Q (R343). -/
def fxMs8 (rt : Reg) (rs : Reg) (rd : Reg) (σ : State) : Effect :=
  let T := σ.me.q rt
  let S := σ.me.q rs
  needQuad [rt, rs, rd] <|
    withScale σ false false fun k => .ok [.q rd (map8h fun i => lane16 σ k |sh S i - sh T i|)]

/-- The meaning of MS8 (R343). -/
def execMs8 (rt : Reg) (rs : Reg) (rd : Reg) (σ : State) : Host.Outcome State Fault Refusal :=
  solo (fxMs8 rt rs rd σ) σ

/-- S8s T.Q,S.Q,D.Q (R365). -/
def fxS8s (rt : Reg) (rs : Reg) (rd : Reg) (σ : State) : Effect :=
  let T := σ.me.q rt
  let S := σ.me.q rs
  needQuad [rt, rs, rd] <|
    withScale σ true false fun k => .ok [.q rd (map8h fun i => lane16 σ k (sh S i - sh T i))]

/-- The meaning of S8s (R365). -/
def execS8s (rt : Reg) (rs : Reg) (rd : Reg) (σ : State) : Host.Outcome State Fault Refusal :=
  solo (fxS8s rt rs rd σ) σ

/-- ALLFT41 S.Q,D (R355). -/
def fxAllft41 (rs : Reg) (rd : Reg) (σ : State) : Effect :=
  let S := σ.me.q rs
  needQuad [rs] <|
    .ok [.h rd (narrow 16 σ.me.sat (roundBy σ.cfg.rounding (sw S 3 + sw S 2 + sw S 1 + sw S 0) 16))]

/-- The meaning of ALLFT41 (R355). -/
def execAllft41 (rs : Reg) (rd : Reg) (σ : State) : Host.Outcome State Fault Refusal :=
  solo (fxAllft41 rs rd σ) σ

/-- ALLFT22 S.Q,D.L (R356). -/
def fxAllft22 (rs : Reg) (rd : Reg) (σ : State) : Effect :=
  let S := σ.me.q rs
  needQuad [rs] <|
    .ok [.l rd (two16 (narrow 16 σ.me.sat (roundBy σ.cfg.rounding (sw S 3 + sw S 2) 16)) (narrow 16 σ.me.sat (roundBy σ.cfg.rounding (sw S 1 + sw S 0) 16)))]

/-- The meaning of ALLFT22 (R356). -/
def execAllft22 (rs : Reg) (rd : Reg) (σ : State) : Host.Outcome State Fault Refusal :=
  solo (fxAllft22 rs rd σ) σ

/-- ALL4 T.Q,S.Q,D.Q (R348). -/
def fxAll4 (rt : Reg) (rs : Reg) (rd : Reg) (σ : State) : Effect :=
  let T := σ.me.q rt
  let S := σ.me.q rs
  needQuad [rt, rs, rd] <|
    withScale σ false false fun k => .ok [.q rd (map4w fun i => lane32 σ k (sw T i + sw S i))]

/-- The meaning of ALL4 (R348). -/
def execAll4 (rt : Reg) (rs : Reg) (rd : Reg) (σ : State) : Host.Outcome State Fault Refusal :=
  solo (fxAll4 rt rs rd σ) σ

/-- ALL2 T.D,S.D,D.D (R349). -/
def fxAll2 (rt : Reg) (rs : Reg) (rd : Reg) (σ : State) : Effect :=
  let T := σ.me.d rt
  let S := σ.me.d rs
  withScale σ false false fun k => .ok [.d rd (map2w fun i => lane32 σ k (sw T i + sw S i))]

/-- The meaning of ALL2 (R349). -/
def execAll2 (rt : Reg) (rs : Reg) (rd : Reg) (σ : State) : Host.Outcome State Fault Refusal :=
  solo (fxAll2 rt rs rd σ) σ

/-- AL4 T.D,S.Q,D.Q (R350). -/
def fxAl4 (rt : Reg) (rs : Reg) (rd : Reg) (σ : State) : Effect :=
  let T := σ.me.d rt
  let S := σ.me.q rs
  needQuad [rs, rd] <|
    withScale σ false false fun k => .ok [.q rd (map4w fun i => lane32 σ k (sh T i + sw S i))]

/-- The meaning of AL4 (R350). -/
def execAl4 (rt : Reg) (rs : Reg) (rd : Reg) (σ : State) : Host.Outcome State Fault Refusal :=
  solo (fxAl4 rt rs rd σ) σ

/-- AL2 T.L,S.D,D.D (R351). -/
def fxAl2 (rt : Reg) (rs : Reg) (rd : Reg) (σ : State) : Effect :=
  let T := σ.me.l rt
  let S := σ.me.d rs
  withScale σ false false fun k => .ok [.d rd (map2w fun i => lane32 σ k (sh T i + sw S i))]

/-- The meaning of AL2 (R351). -/
def execAl2 (rt : Reg) (rs : Reg) (rd : Reg) (σ : State) : Host.Outcome State Fault Refusal :=
  solo (fxAl2 rt rs rd σ) σ

/-- A81 S.Q,D (R352). -/
def fxA81 (rs : Reg) (rd : Reg) (σ : State) : Effect :=
  let S := σ.me.q rs
  needQuad [rs] <|
    withScale σ false true fun k => .ok [.h rd (lane16 σ k (sumParts S 0 8))]

/-- The meaning of A81 (R352). -/
def execA81 (rs : Reg) (rd : Reg) (σ : State) : Host.Outcome State Fault Refusal :=
  solo (fxA81 rs rd σ) σ

/-- A42 S.Q,D.L (R353). -/
def fxA42 (rs : Reg) (rd : Reg) (σ : State) : Effect :=
  let S := σ.me.q rs
  needQuad [rs] <|
    withScale σ false true fun k => .ok [.l rd (map2h fun i => lane16 σ k (sumParts S (4 * i) 4))]

/-- The meaning of A42 (R353). -/
def execA42 (rs : Reg) (rd : Reg) (σ : State) : Host.Outcome State Fault Refusal :=
  solo (fxA42 rs rd σ) σ

/-- A24 S.Q,D.D (R354). -/
def fxA24 (rs : Reg) (rd : Reg) (σ : State) : Effect :=
  let S := σ.me.q rs
  needQuad [rs] <|
    withScale σ false false fun k => .ok [.d rd (map4h fun i => lane16 σ k (sumParts S (2 * i) 2))]

/-- The meaning of A24 (R354). -/
def execA24 (rs : Reg) (rd : Reg) (σ : State) : Host.Outcome State Fault Refusal :=
  solo (fxA24 rs rd σ) σ

/-- BF4 T.D,S.D,D.Q (R366). -/
def fxBf4 (rt : Reg) (rs : Reg) (rd : Reg) (σ : State) : Effect :=
  let T := σ.me.d rt
  let S := σ.me.d rs
  needQuad [rd] <|
    withScale σ false false fun k => .ok [.q rd (eight16
      (lane16 σ k (sh S 3 - sh T 2)) (lane16 σ k (sh S 2 + sh T 3)) (lane16 σ k (sh S 1 - sh T 1))
      (lane16 σ k (sh S 0 - sh T 0)) (lane16 σ k (sh S 3 + sh T 2)) (lane16 σ k (sh S 2 - sh T 3))
      (lane16 σ k (sh S 1 + sh T 1)) (lane16 σ k (sh S 0 + sh T 0)))]

/-- The meaning of BF4 (R366). -/
def execBf4 (rt : Reg) (rs : Reg) (rd : Reg) (σ : State) : Host.Outcome State Fault Refusal :=
  solo (fxBf4 rt rs rd σ) σ

/-- BIF4 T.D,S.D,D.Q (R367). -/
def fxBif4 (rt : Reg) (rs : Reg) (rd : Reg) (σ : State) : Effect :=
  let T := σ.me.d rt
  let S := σ.me.d rs
  needQuad [rd] <|
    withScale σ false false fun k => .ok [.q rd (eight16
      (lane16 σ k (sh S 3 + sh T 2)) (lane16 σ k (sh S 2 - sh T 3)) (lane16 σ k (sh S 1 - sh T 1))
      (lane16 σ k (sh S 0 - sh T 0)) (lane16 σ k (sh S 3 - sh T 2)) (lane16 σ k (sh S 2 + sh T 3))
      (lane16 σ k (sh S 1 + sh T 1)) (lane16 σ k (sh S 0 + sh T 0)))]

/-- The meaning of BIF4 (R367). -/
def execBif4 (rt : Reg) (rs : Reg) (rd : Reg) (σ : State) : Host.Outcome State Fault Refusal :=
  solo (fxBif4 rt rs rd σ) σ

/-- AXJ4 T.Q,S.Q,D.Q (R368). -/
def fxAxj4 (rt : Reg) (rs : Reg) (rd : Reg) (σ : State) : Effect :=
  let T := σ.me.q rt
  let S := σ.me.q rs
  needQuad [rt, rs, rd] <|
    withScale σ false false fun k => .ok [.q rd (eight16
      (lane16 σ k (sh S 7 - sh T 6)) (lane16 σ k (sh S 6 + sh T 7)) (lane16 σ k (sh S 5 - sh T 4))
      (lane16 σ k (sh S 4 + sh T 5)) (lane16 σ k (sh S 3 - sh T 2)) (lane16 σ k (sh S 2 + sh T 3))
      (lane16 σ k (sh S 1 - sh T 0)) (lane16 σ k (sh S 0 + sh T 1)))]

/-- The meaning of AXJ4 (R368). -/
def execAxj4 (rt : Reg) (rs : Reg) (rd : Reg) (σ : State) : Host.Outcome State Fault Refusal :=
  solo (fxAxj4 rt rs rd σ) σ

/-- SXJ4 T.Q,S.Q,D.Q (R369). -/
def fxSxj4 (rt : Reg) (rs : Reg) (rd : Reg) (σ : State) : Effect :=
  let T := σ.me.q rt
  let S := σ.me.q rs
  needQuad [rt, rs, rd] <|
    withScale σ false false fun k => .ok [.q rd (eight16
      (lane16 σ k (sh S 7 + sh T 6)) (lane16 σ k (sh S 6 - sh T 7)) (lane16 σ k (sh S 5 + sh T 4))
      (lane16 σ k (sh S 4 - sh T 5)) (lane16 σ k (sh S 3 + sh T 2)) (lane16 σ k (sh S 2 - sh T 3))
      (lane16 σ k (sh S 1 + sh T 0)) (lane16 σ k (sh S 0 - sh T 1)))]

/-- The meaning of SXJ4 (R369). -/
def execSxj4 (rt : Reg) (rs : Reg) (rd : Reg) (σ : State) : Host.Outcome State Fault Refusal :=
  solo (fxSxj4 rt rs rd σ) σ

end Sys2Proof.Machine
end

