-- ==== Sys2Proof/Machine/Shift.lean ====
section
/-! DEFINITION. Shifts and rotations of 64-bit operands, SMBD, ASRDE (45_shifter64.md). For each instruction `fx…`, the writes it makes from the
state before it, and its meaning `exec…`. -/

namespace Sys2Proof.Machine

/-- Arithmetic right shift: floor division of the signed value by 2^a (45_shifter64.md R316). -/
def asr {n : Nat} (v : BitVec n) (a : Nat) : BitVec n := wrap n (v.toInt / 2 ^ a)
/-- Logical right shift, zero fill (R320). -/
def lsr {n : Nat} (v : BitVec n) (a : Nat) : BitVec n := BitVec.ofNat n (v.toNat / 2 ^ a)
/-- Left shift, arithmetic and logical alike (R315 (c), R318, R322). -/
def shl {n : Nat} (v : BitVec n) (a : Nat) : BitVec n := BitVec.ofNat n (v.toNat * 2 ^ a)

/-- LSLDi #5,S.D,D.D (R322). -/
def fxLsldi (imm : BitVec 5) (rs : Reg) (rd : Reg) (σ : State) : Effect :=
  let S := σ.me.d rs
  .ok [.d rd (shl S imm.toNat)]

/-- The meaning of LSLDi (R322). -/
def execLsldi (imm : BitVec 5) (rs : Reg) (rd : Reg) (σ : State) : Host.Outcome State Fault Refusal :=
  solo (fxLsldi imm rs rd σ) σ

/-- LSLXL T.L,S.D,D.D (R329). -/
def fxLslxl (rt : Reg) (rs : Reg) (rd : Reg) (σ : State) : Effect :=
  let T := σ.me.l rt
  let S := σ.me.d rs
  withAmount 31 (hp T 1) fun a1 => withAmount 31 (hp T 0) fun a0 =>
      .ok [.d rd (two32 (shl (wp S 1) a1) (shl (wp S 0) a0))]

/-- The meaning of LSLXL (R329). -/
def execLslxl (rt : Reg) (rs : Reg) (rd : Reg) (σ : State) : Host.Outcome State Fault Refusal :=
  solo (fxLslxl rt rs rd σ) σ

/-- ASLDi #5,S.D,D.D (R318). -/
def fxAsldi (imm : BitVec 5) (rs : Reg) (rd : Reg) (σ : State) : Effect :=
  let S := σ.me.d rs
  .ok [.d rd (shl S imm.toNat)]

/-- The meaning of ASLDi (R318). -/
def execAsldi (imm : BitVec 5) (rs : Reg) (rd : Reg) (σ : State) : Host.Outcome State Fault Refusal :=
  solo (fxAsldi imm rs rd σ) σ

/-- ASLXL T,S.D,D.D (R327). -/
def fxAslxl (rt : Reg) (rs : Reg) (rd : Reg) (σ : State) : Effect :=
  let T := σ.me.h rt
  let S := σ.me.d rs
  withAmount 31 T fun a => .ok [.d rd (map2w fun i => shl (wp S i) a)]

/-- The meaning of ASLXL (R327). -/
def execAslxl (rt : Reg) (rs : Reg) (rd : Reg) (σ : State) : Host.Outcome State Fault Refusal :=
  solo (fxAslxl rt rs rd σ) σ

/-- LSLD T,S.D,D.D (R323). -/
def fxLsld (rt : Reg) (rs : Reg) (rd : Reg) (σ : State) : Effect :=
  let T := σ.me.h rt
  let S := σ.me.d rs
  withAmount 63 T fun a => .ok [.d rd (shl S a)]

/-- The meaning of LSLD (R323). -/
def execLsld (rt : Reg) (rs : Reg) (rd : Reg) (σ : State) : Host.Outcome State Fault Refusal :=
  solo (fxLsld rt rs rd σ) σ

/-- ROLD S.D,D.D (R325). -/
def fxRold (rs : Reg) (rd : Reg) (σ : State) : Effect :=
  let S := σ.me.d rs
  .ok [.d rd (S.extractLsb' 0 63 ++ BitVec.ofBool σ.flagC), .flagC (S.getLsbD 63)]

/-- The meaning of ROLD (R325). -/
def execRold (rs : Reg) (rd : Reg) (σ : State) : Host.Outcome State Fault Refusal :=
  solo (fxRold rs rd σ) σ

/-- ASLD T,S.D,D.D (R319). -/
def fxAsld (rt : Reg) (rs : Reg) (rd : Reg) (σ : State) : Effect :=
  let T := σ.me.h rt
  let S := σ.me.d rs
  withAmount 63 T fun a => .ok [.d rd (shl S a)]

/-- The meaning of ASLD (R319). -/
def execAsld (rt : Reg) (rs : Reg) (rd : Reg) (σ : State) : Host.Outcome State Fault Refusal :=
  solo (fxAsld rt rs rd σ) σ

/-- ASRDE T,S.D,D.D (R332). -/
def fxAsrde (rt : Reg) (rs : Reg) (rd : Reg) (σ : State) : Effect :=
  let T := σ.me.h rt
  let S := σ.me.d rs
  let D := σ.me.d rd
  withAmount 63 T fun a => .ok [if σ.me.eBit then .d rd (asr D a) else .d rs (asr S a)]

/-- The meaning of ASRDE (R332). -/
def execAsrde (rt : Reg) (rs : Reg) (rd : Reg) (σ : State) : Host.Outcome State Fault Refusal :=
  solo (fxAsrde rt rs rd σ) σ

/-- LSRDi #5,S.D,D.D (R320). -/
def fxLsrdi (imm : BitVec 5) (rs : Reg) (rd : Reg) (σ : State) : Effect :=
  let S := σ.me.d rs
  .ok [.d rd (lsr S imm.toNat)]

/-- The meaning of LSRDi (R320). -/
def execLsrdi (imm : BitVec 5) (rs : Reg) (rd : Reg) (σ : State) : Host.Outcome State Fault Refusal :=
  solo (fxLsrdi imm rs rd σ) σ

/-- LSRXL T.L,S.D,D.D (R328). -/
def fxLsrxl (rt : Reg) (rs : Reg) (rd : Reg) (σ : State) : Effect :=
  let T := σ.me.l rt
  let S := σ.me.d rs
  withAmount 31 (hp T 1) fun a1 => withAmount 31 (hp T 0) fun a0 =>
      .ok [.d rd (two32 (lsr (wp S 1) a1) (lsr (wp S 0) a0))]

/-- The meaning of LSRXL (R328). -/
def execLsrxl (rt : Reg) (rs : Reg) (rd : Reg) (σ : State) : Host.Outcome State Fault Refusal :=
  solo (fxLsrxl rt rs rd σ) σ

/-- ASRDi #5,S.D,D.D (R316). -/
def fxAsrdi (imm : BitVec 5) (rs : Reg) (rd : Reg) (σ : State) : Effect :=
  let S := σ.me.d rs
  .ok [.d rd (asr S imm.toNat)]

/-- The meaning of ASRDi (R316). -/
def execAsrdi (imm : BitVec 5) (rs : Reg) (rd : Reg) (σ : State) : Host.Outcome State Fault Refusal :=
  solo (fxAsrdi imm rs rd σ) σ

/-- ASRXL T,S.D,D.D (R326). -/
def fxAsrxl (rt : Reg) (rs : Reg) (rd : Reg) (σ : State) : Effect :=
  let T := σ.me.h rt
  let S := σ.me.d rs
  withAmount 31 T fun a => .ok [.d rd (map2w fun i => asr (wp S i) a)]

/-- The meaning of ASRXL (R326). -/
def execAsrxl (rt : Reg) (rs : Reg) (rd : Reg) (σ : State) : Host.Outcome State Fault Refusal :=
  solo (fxAsrxl rt rs rd σ) σ

/-- SMBD S.D,D (R330). -/
def fxSmbd (rs : Reg) (rd : Reg) (σ : State) : Effect :=
  let S := σ.me.d rs
  .ok [.h rd (BitVec.ofNat 16 (popcount S 64))]

/-- The meaning of SMBD (R330). -/
def execSmbd (rs : Reg) (rd : Reg) (σ : State) : Host.Outcome State Fault Refusal :=
  solo (fxSmbd rs rd σ) σ

/-- LSRD T,S.D,D.D (R321). -/
def fxLsrd (rt : Reg) (rs : Reg) (rd : Reg) (σ : State) : Effect :=
  let T := σ.me.h rt
  let S := σ.me.d rs
  withAmount 63 T fun a => .ok [.d rd (lsr S a)]

/-- The meaning of LSRD (R321). -/
def execLsrd (rt : Reg) (rs : Reg) (rd : Reg) (σ : State) : Host.Outcome State Fault Refusal :=
  solo (fxLsrd rt rs rd σ) σ

/-- RORD S.D,D.D (R324). -/
def fxRord (rs : Reg) (rd : Reg) (σ : State) : Effect :=
  let S := σ.me.d rs
  .ok [.d rd (BitVec.ofBool σ.flagC ++ S.extractLsb' 1 63), .flagC (S.getLsbD 0)]

/-- The meaning of RORD (R324). -/
def execRord (rs : Reg) (rd : Reg) (σ : State) : Host.Outcome State Fault Refusal :=
  solo (fxRord rs rd σ) σ

/-- ASRD T,S.D,D.D (R317). -/
def fxAsrd (rt : Reg) (rs : Reg) (rd : Reg) (σ : State) : Effect :=
  let T := σ.me.h rt
  let S := σ.me.d rs
  withAmount 63 T fun a => .ok [.d rd (asr S a)]

/-- The meaning of ASRD (R317). -/
def execAsrd (rt : Reg) (rs : Reg) (rd : Reg) (σ : State) : Host.Outcome State Fault Refusal :=
  solo (fxAsrd rt rs rd σ) σ

end Sys2Proof.Machine
end

