-- ==== Sys2Proof/Machine/Transfer.lean ====
section
/-! DEFINITION. The special transfer block TRS0..TRS19, in both slots (49_trs.md). For each instruction `fx…`, the writes it makes from the
state before it, and its meaning `exec…`. -/

namespace Sys2Proof.Machine

/-- `p565(X)`: parts 2, 1, 0 clamped to 31, 63, 31 from below by 0 (49_trs.md R451). -/
def pack565 (x : Dbl) : Half := satU 5 (sh x 2) ++ satU 6 (sh x 1) ++ satU 5 (sh x 0)

/-- Bits 2i+1, 2i of the interleave of the low `count` bits of t and s (R455). -/
def interleaveBits (t s : Half) : Nat → Word
  | 0 => 0
  | count + 1 =>
    setBit (setBit (interleaveBits t s count) (2 * count) (s.getLsbD count)) (2 * count + 1) (t.getLsbD count)
/-- The bits of t in the odd places, the bits of s in the even ones (R455). -/
def interleave (t s : Half) : Word := interleaveBits t s 16

/-- TRS16 S.Q,D.D (R453). -/
def fxTrs16 (rs : Reg) (rd : Reg) (σ : State) : Effect :=
  let S := σ.me.q rs
  needQuad [rs] <|
    .ok [.d rd (map4h fun i => int16 (sw S i))]

/-- The meaning of TRS16 (R453). -/
def execTrs16 (rs : Reg) (rd : Reg) (σ : State) : Host.Outcome State Fault Refusal :=
  solo (fxTrs16 rs rd σ) σ

/-- TRS17 S.Q,D.D (R454). -/
def fxTrs17 (rs : Reg) (rd : Reg) (σ : State) : Effect :=
  let S := σ.me.q rs
  needQuad [rs] <|
    .ok [.d rd (map4h fun i => uns16 (sw S i))]

/-- The meaning of TRS17 (R454). -/
def execTrs17 (rs : Reg) (rd : Reg) (σ : State) : Host.Outcome State Fault Refusal :=
  solo (fxTrs17 rs rd σ) σ

/-- TRS18 T,S,D.L (R455). -/
def fxTrs18 (rt : Reg) (rs : Reg) (rd : Reg) (σ : State) : Effect :=
  let T := σ.me.h rt
  let S := σ.me.h rs
  .ok [.l rd (interleave T S)]

/-- The meaning of TRS18 (R455). -/
def execTrs18 (rt : Reg) (rs : Reg) (rd : Reg) (σ : State) : Host.Outcome State Fault Refusal :=
  solo (fxTrs18 rt rs rd σ) σ

/-- TRS19 S.Q,D.D (R456). -/
def fxTrs19 (rs : Reg) (rd : Reg) (σ : State) : Effect :=
  let S := σ.me.q rs
  needQuad [rs] <|
    .ok [.d rd (map8b fun i => int8 (sh S i))]

/-- The meaning of TRS19 (R456). -/
def execTrs19 (rs : Reg) (rd : Reg) (σ : State) : Host.Outcome State Fault Refusal :=
  solo (fxTrs19 rs rd σ) σ

/-- TRS0 S.Q,D.Q (R436). -/
def fxTrs0 (rs : Reg) (rd : Reg) (σ : State) : Effect :=
  let S := σ.me.q rs
  needQuad [rs, rd] <|
    .ok [.q rd S]

/-- The meaning of TRS0 (R436). -/
def execTrs0 (rs : Reg) (rd : Reg) (σ : State) : Host.Outcome State Fault Refusal :=
  solo (fxTrs0 rs rd σ) σ

/-- TRS1 T.D,S.D,D.D (R437). -/
def fxTrs1 (rt : Reg) (rs : Reg) (rd : Reg) (σ : State) : Effect :=
  let T := σ.me.d rt
  let S := σ.me.d rs
  .ok [.d rd (four16 (hp T 0) (hp S 3) (hp S 2) (hp S 1))]

/-- The meaning of TRS1 (R437). -/
def execTrs1 (rt : Reg) (rs : Reg) (rd : Reg) (σ : State) : Host.Outcome State Fault Refusal :=
  solo (fxTrs1 rt rs rd σ) σ

/-- TRS2 T.D,S.D,D.D (R438). -/
def fxTrs2 (rt : Reg) (rs : Reg) (rd : Reg) (σ : State) : Effect :=
  let T := σ.me.d rt
  let S := σ.me.d rs
  .ok [.d rd (four16 (hp T 1) (hp T 0) (hp S 3) (hp S 2))]

/-- The meaning of TRS2 (R438). -/
def execTrs2 (rt : Reg) (rs : Reg) (rd : Reg) (σ : State) : Host.Outcome State Fault Refusal :=
  solo (fxTrs2 rt rs rd σ) σ

/-- TRS3 T.D,S.D,D.D (R439). -/
def fxTrs3 (rt : Reg) (rs : Reg) (rd : Reg) (σ : State) : Effect :=
  let T := σ.me.d rt
  let S := σ.me.d rs
  .ok [.d rd (four16 (hp T 2) (hp T 1) (hp T 0) (hp S 3))]

/-- The meaning of TRS3 (R439). -/
def execTrs3 (rt : Reg) (rs : Reg) (rd : Reg) (σ : State) : Host.Outcome State Fault Refusal :=
  solo (fxTrs3 rt rs rd σ) σ

/-- TRS4 S.D,D.Q (R441). -/
def fxTrs4 (rs : Reg) (rd : Reg) (σ : State) : Effect :=
  let S := σ.me.d rs
  needQuad [rd] <|
    .ok [.q rd (map8h fun i => bp S i ++ 0#8)]

/-- The meaning of TRS4 (R441). -/
def execTrs4 (rs : Reg) (rd : Reg) (σ : State) : Host.Outcome State Fault Refusal :=
  solo (fxTrs4 rs rd σ) σ

/-- TRS5 S.D,D.Q (R442). -/
def fxTrs5 (rs : Reg) (rd : Reg) (σ : State) : Effect :=
  let S := σ.me.d rs
  needQuad [rd] <|
    .ok [.q rd (map8h fun i => (bp S i).signExtend 16)]

/-- The meaning of TRS5 (R442). -/
def execTrs5 (rs : Reg) (rd : Reg) (σ : State) : Host.Outcome State Fault Refusal :=
  solo (fxTrs5 rs rd σ) σ

/-- TRS6 S.D,D.Q (R443). -/
def fxTrs6 (rs : Reg) (rd : Reg) (σ : State) : Effect :=
  let S := σ.me.d rs
  needQuad [rd] <|
    .ok [.q rd (map8h fun i => (bp S i).setWidth 16)]

/-- The meaning of TRS6 (R443). -/
def execTrs6 (rs : Reg) (rd : Reg) (σ : State) : Host.Outcome State Fault Refusal :=
  solo (fxTrs6 rs rd σ) σ

/-- TRS7 S.Q,D.D (R444). -/
def fxTrs7 (rs : Reg) (rd : Reg) (σ : State) : Effect :=
  let S := σ.me.q rs
  needQuad [rs] <|
    .ok [.d rd (map8b fun i => fr8 σ.cfg.rounding (sh S i))]

/-- The meaning of TRS7 (R444). -/
def execTrs7 (rs : Reg) (rd : Reg) (σ : State) : Host.Outcome State Fault Refusal :=
  solo (fxTrs7 rs rd σ) σ

/-- TRS8 S.Q,D.D (R445). -/
def fxTrs8 (rs : Reg) (rd : Reg) (σ : State) : Effect :=
  let S := σ.me.q rs
  needQuad [rs] <|
    .ok [.d rd (map8b fun i => uns8 (sh S i))]

/-- The meaning of TRS8 (R445). -/
def execTrs8 (rs : Reg) (rd : Reg) (σ : State) : Host.Outcome State Fault Refusal :=
  solo (fxTrs8 rs rd σ) σ

/-- TRS9 S.D,D.D (R446). -/
def fxTrs9 (rs : Reg) (rd : Reg) (σ : State) : Effect :=
  let S := σ.me.d rs
  .ok [.d rd (four16 (hp S 0) (hp S 1) (hp S 2) (hp S 3))]

/-- The meaning of TRS9 (R446). -/
def execTrs9 (rs : Reg) (rd : Reg) (σ : State) : Host.Outcome State Fault Refusal :=
  solo (fxTrs9 rs rd σ) σ

/-- TRS10 S.D,D.D (R447). -/
def fxTrs10 (rs : Reg) (rd : Reg) (σ : State) : Effect :=
  let S := σ.me.d rs
  .ok [.d rd (four16 (hp S 3) (hp S 1) (hp S 2) (hp S 0))]

/-- The meaning of TRS10 (R447). -/
def execTrs10 (rs : Reg) (rd : Reg) (σ : State) : Host.Outcome State Fault Refusal :=
  solo (fxTrs10 rs rd σ) σ

/-- TRS11 T.D,S.D,D.Q (R448). -/
def fxTrs11 (rt : Reg) (rs : Reg) (rd : Reg) (σ : State) : Effect :=
  let T := σ.me.d rt
  let S := σ.me.d rs
  needQuad [rd] <|
    .ok [.q rd (eight16 (hp T 3) (hp T 2) (hp S 3) (hp S 2) (hp T 1) (hp T 0) (hp S 1) (hp S 0))]

/-- The meaning of TRS11 (R448). -/
def execTrs11 (rt : Reg) (rs : Reg) (rd : Reg) (σ : State) : Host.Outcome State Fault Refusal :=
  solo (fxTrs11 rt rs rd σ) σ

/-- TRS12 T.D,S.D,D.Q (R449). -/
def fxTrs12 (rt : Reg) (rs : Reg) (rd : Reg) (σ : State) : Effect :=
  let T := σ.me.d rt
  let S := σ.me.d rs
  needQuad [rd] <|
    .ok [.q rd (eight16 (hp T 3) (hp S 3) (hp T 2) (hp S 2) (hp T 1) (hp S 1) (hp T 0) (hp S 0))]

/-- The meaning of TRS12 (R449). -/
def execTrs12 (rt : Reg) (rs : Reg) (rd : Reg) (σ : State) : Host.Outcome State Fault Refusal :=
  solo (fxTrs12 rt rs rd σ) σ

/-- TRS13 T.D,S.D,D.Q (R450). -/
def fxTrs13 (rt : Reg) (rs : Reg) (rd : Reg) (σ : State) : Effect :=
  let T := σ.me.d rt
  let S := σ.me.d rs
  needQuad [rd] <|
    .ok [.q rd (eight16 (hp T 3) (hp T 1) (hp S 3) (hp S 1) (hp T 2) (hp T 0) (hp S 2) (hp S 0))]

/-- The meaning of TRS13 (R450). -/
def execTrs13 (rt : Reg) (rs : Reg) (rd : Reg) (σ : State) : Host.Outcome State Fault Refusal :=
  solo (fxTrs13 rt rs rd σ) σ

/-- TRS14 T.D,S.D,D.L (R451). -/
def fxTrs14 (rt : Reg) (rs : Reg) (rd : Reg) (σ : State) : Effect :=
  let T := σ.me.d rt
  let S := σ.me.d rs
  .ok [.l rd (two16 (pack565 T) (pack565 S))]

/-- The meaning of TRS14 (R451). -/
def execTrs14 (rt : Reg) (rs : Reg) (rd : Reg) (σ : State) : Host.Outcome State Fault Refusal :=
  solo (fxTrs14 rt rs rd σ) σ

/-- TRS15 S.Q,D.D (R452). -/
def fxTrs15 (rs : Reg) (rd : Reg) (σ : State) : Effect :=
  let S := σ.me.q rs
  needQuad [rs] <|
    .ok [.d rd (map4h fun i => fr16 σ.cfg.rounding (sw S i))]

/-- The meaning of TRS15 (R452). -/
def execTrs15 (rs : Reg) (rd : Reg) (σ : State) : Host.Outcome State Fault Refusal :=
  solo (fxTrs15 rs rd σ) σ

/-- TRS16 S.Q,D.D in the OP2 slot (R453). -/
def fxTrs16B (rs : Reg) (rd : Reg) (σ : State) : Effect :=
  let S := σ.me.q rs
  needQuad [rs] <|
    .ok [.d rd (map4h fun i => int16 (sw S i))]

/-- The meaning of TRS16 (R453). -/
def execTrs16B (rs : Reg) (rd : Reg) (σ : State) : Host.Outcome State Fault Refusal :=
  solo (fxTrs16B rs rd σ) σ

/-- TRS17 S.Q,D.D in the OP2 slot (R454). -/
def fxTrs17B (rs : Reg) (rd : Reg) (σ : State) : Effect :=
  let S := σ.me.q rs
  needQuad [rs] <|
    .ok [.d rd (map4h fun i => uns16 (sw S i))]

/-- The meaning of TRS17 (R454). -/
def execTrs17B (rs : Reg) (rd : Reg) (σ : State) : Host.Outcome State Fault Refusal :=
  solo (fxTrs17B rs rd σ) σ

/-- TRS18 T,S,D.L in the OP2 slot (R455). -/
def fxTrs18B (rt : Reg) (rs : Reg) (rd : Reg) (σ : State) : Effect :=
  let T := σ.me.h rt
  let S := σ.me.h rs
  .ok [.l rd (interleave T S)]

/-- The meaning of TRS18 (R455). -/
def execTrs18B (rt : Reg) (rs : Reg) (rd : Reg) (σ : State) : Host.Outcome State Fault Refusal :=
  solo (fxTrs18B rt rs rd σ) σ

/-- TRS19 S.Q,D.D in the OP2 slot (R456). -/
def fxTrs19B (rs : Reg) (rd : Reg) (σ : State) : Effect :=
  let S := σ.me.q rs
  needQuad [rs] <|
    .ok [.d rd (map8b fun i => int8 (sh S i))]

/-- The meaning of TRS19 (R456). -/
def execTrs19B (rs : Reg) (rd : Reg) (σ : State) : Host.Outcome State Fault Refusal :=
  solo (fxTrs19B rs rd σ) σ

/-- TRS0 S.Q,D.Q in the OP2 slot (R436). -/
def fxTrs0B (rs : Reg) (rd : Reg) (σ : State) : Effect :=
  let S := σ.me.q rs
  needQuad [rs, rd] <|
    .ok [.q rd S]

/-- The meaning of TRS0 (R436). -/
def execTrs0B (rs : Reg) (rd : Reg) (σ : State) : Host.Outcome State Fault Refusal :=
  solo (fxTrs0B rs rd σ) σ

/-- TRS1 T.D,S.D,D.D in the OP2 slot (R437). -/
def fxTrs1B (rt : Reg) (rs : Reg) (rd : Reg) (σ : State) : Effect :=
  let T := σ.me.d rt
  let S := σ.me.d rs
  .ok [.d rd (four16 (hp T 0) (hp S 3) (hp S 2) (hp S 1))]

/-- The meaning of TRS1 (R437). -/
def execTrs1B (rt : Reg) (rs : Reg) (rd : Reg) (σ : State) : Host.Outcome State Fault Refusal :=
  solo (fxTrs1B rt rs rd σ) σ

/-- TRS2 T.D,S.D,D.D in the OP2 slot (R438). -/
def fxTrs2B (rt : Reg) (rs : Reg) (rd : Reg) (σ : State) : Effect :=
  let T := σ.me.d rt
  let S := σ.me.d rs
  .ok [.d rd (four16 (hp T 1) (hp T 0) (hp S 3) (hp S 2))]

/-- The meaning of TRS2 (R438). -/
def execTrs2B (rt : Reg) (rs : Reg) (rd : Reg) (σ : State) : Host.Outcome State Fault Refusal :=
  solo (fxTrs2B rt rs rd σ) σ

/-- TRS3 T.D,S.D,D.D in the OP2 slot (R439). -/
def fxTrs3B (rt : Reg) (rs : Reg) (rd : Reg) (σ : State) : Effect :=
  let T := σ.me.d rt
  let S := σ.me.d rs
  .ok [.d rd (four16 (hp T 2) (hp T 1) (hp T 0) (hp S 3))]

/-- The meaning of TRS3 (R439). -/
def execTrs3B (rt : Reg) (rs : Reg) (rd : Reg) (σ : State) : Host.Outcome State Fault Refusal :=
  solo (fxTrs3B rt rs rd σ) σ

/-- TRS4 S.D,D.Q in the OP2 slot (R441). -/
def fxTrs4B (rs : Reg) (rd : Reg) (σ : State) : Effect :=
  let S := σ.me.d rs
  needQuad [rd] <|
    .ok [.q rd (map8h fun i => bp S i ++ 0#8)]

/-- The meaning of TRS4 (R441). -/
def execTrs4B (rs : Reg) (rd : Reg) (σ : State) : Host.Outcome State Fault Refusal :=
  solo (fxTrs4B rs rd σ) σ

/-- TRS5 S.D,D.Q in the OP2 slot (R442). -/
def fxTrs5B (rs : Reg) (rd : Reg) (σ : State) : Effect :=
  let S := σ.me.d rs
  needQuad [rd] <|
    .ok [.q rd (map8h fun i => (bp S i).signExtend 16)]

/-- The meaning of TRS5 (R442). -/
def execTrs5B (rs : Reg) (rd : Reg) (σ : State) : Host.Outcome State Fault Refusal :=
  solo (fxTrs5B rs rd σ) σ

/-- TRS6 S.D,D.Q in the OP2 slot (R443). -/
def fxTrs6B (rs : Reg) (rd : Reg) (σ : State) : Effect :=
  let S := σ.me.d rs
  needQuad [rd] <|
    .ok [.q rd (map8h fun i => (bp S i).setWidth 16)]

/-- The meaning of TRS6 (R443). -/
def execTrs6B (rs : Reg) (rd : Reg) (σ : State) : Host.Outcome State Fault Refusal :=
  solo (fxTrs6B rs rd σ) σ

/-- TRS7 S.Q,D.D in the OP2 slot (R444). -/
def fxTrs7B (rs : Reg) (rd : Reg) (σ : State) : Effect :=
  let S := σ.me.q rs
  needQuad [rs] <|
    .ok [.d rd (map8b fun i => fr8 σ.cfg.rounding (sh S i))]

/-- The meaning of TRS7 (R444). -/
def execTrs7B (rs : Reg) (rd : Reg) (σ : State) : Host.Outcome State Fault Refusal :=
  solo (fxTrs7B rs rd σ) σ

/-- TRS8 S.Q,D.D in the OP2 slot (R445). -/
def fxTrs8B (rs : Reg) (rd : Reg) (σ : State) : Effect :=
  let S := σ.me.q rs
  needQuad [rs] <|
    .ok [.d rd (map8b fun i => uns8 (sh S i))]

/-- The meaning of TRS8 (R445). -/
def execTrs8B (rs : Reg) (rd : Reg) (σ : State) : Host.Outcome State Fault Refusal :=
  solo (fxTrs8B rs rd σ) σ

/-- TRS9 S.D,D.D in the OP2 slot (R446). -/
def fxTrs9B (rs : Reg) (rd : Reg) (σ : State) : Effect :=
  let S := σ.me.d rs
  .ok [.d rd (four16 (hp S 0) (hp S 1) (hp S 2) (hp S 3))]

/-- The meaning of TRS9 (R446). -/
def execTrs9B (rs : Reg) (rd : Reg) (σ : State) : Host.Outcome State Fault Refusal :=
  solo (fxTrs9B rs rd σ) σ

/-- TRS10 S.D,D.D in the OP2 slot (R447). -/
def fxTrs10B (rs : Reg) (rd : Reg) (σ : State) : Effect :=
  let S := σ.me.d rs
  .ok [.d rd (four16 (hp S 3) (hp S 1) (hp S 2) (hp S 0))]

/-- The meaning of TRS10 (R447). -/
def execTrs10B (rs : Reg) (rd : Reg) (σ : State) : Host.Outcome State Fault Refusal :=
  solo (fxTrs10B rs rd σ) σ

/-- TRS11 T.D,S.D,D.Q in the OP2 slot (R448). -/
def fxTrs11B (rt : Reg) (rs : Reg) (rd : Reg) (σ : State) : Effect :=
  let T := σ.me.d rt
  let S := σ.me.d rs
  needQuad [rd] <|
    .ok [.q rd (eight16 (hp T 3) (hp T 2) (hp S 3) (hp S 2) (hp T 1) (hp T 0) (hp S 1) (hp S 0))]

/-- The meaning of TRS11 (R448). -/
def execTrs11B (rt : Reg) (rs : Reg) (rd : Reg) (σ : State) : Host.Outcome State Fault Refusal :=
  solo (fxTrs11B rt rs rd σ) σ

/-- TRS12 T.D,S.D,D.Q in the OP2 slot (R449). -/
def fxTrs12B (rt : Reg) (rs : Reg) (rd : Reg) (σ : State) : Effect :=
  let T := σ.me.d rt
  let S := σ.me.d rs
  needQuad [rd] <|
    .ok [.q rd (eight16 (hp T 3) (hp S 3) (hp T 2) (hp S 2) (hp T 1) (hp S 1) (hp T 0) (hp S 0))]

/-- The meaning of TRS12 (R449). -/
def execTrs12B (rt : Reg) (rs : Reg) (rd : Reg) (σ : State) : Host.Outcome State Fault Refusal :=
  solo (fxTrs12B rt rs rd σ) σ

/-- TRS13 T.D,S.D,D.Q in the OP2 slot (R450). -/
def fxTrs13B (rt : Reg) (rs : Reg) (rd : Reg) (σ : State) : Effect :=
  let T := σ.me.d rt
  let S := σ.me.d rs
  needQuad [rd] <|
    .ok [.q rd (eight16 (hp T 3) (hp T 1) (hp S 3) (hp S 1) (hp T 2) (hp T 0) (hp S 2) (hp S 0))]

/-- The meaning of TRS13 (R450). -/
def execTrs13B (rt : Reg) (rs : Reg) (rd : Reg) (σ : State) : Host.Outcome State Fault Refusal :=
  solo (fxTrs13B rt rs rd σ) σ

/-- TRS14 T.D,S.D,D.L in the OP2 slot (R451). -/
def fxTrs14B (rt : Reg) (rs : Reg) (rd : Reg) (σ : State) : Effect :=
  let T := σ.me.d rt
  let S := σ.me.d rs
  .ok [.l rd (two16 (pack565 T) (pack565 S))]

/-- The meaning of TRS14 (R451). -/
def execTrs14B (rt : Reg) (rs : Reg) (rd : Reg) (σ : State) : Host.Outcome State Fault Refusal :=
  solo (fxTrs14B rt rs rd σ) σ

/-- TRS15 S.Q,D.D in the OP2 slot (R452). -/
def fxTrs15B (rs : Reg) (rd : Reg) (σ : State) : Effect :=
  let S := σ.me.q rs
  needQuad [rs] <|
    .ok [.d rd (map4h fun i => fr16 σ.cfg.rounding (sw S i))]

/-- The meaning of TRS15 (R452). -/
def execTrs15B (rs : Reg) (rd : Reg) (σ : State) : Host.Outcome State Fault Refusal :=
  solo (fxTrs15B rs rd σ) σ

end Sys2Proof.Machine
end

