-- ==== Sys2Proof/Machine/Effects.lean ====
section
/-! DEFINITION. The effect of each part by its constructor: what a whole instruction gathers from its parts
(30_encoding.md R174). One line per constructor, the same `fx…` its meaning uses. -/

namespace Sys2Proof.Machine

/-- The writes of a part, from the state before the instruction. -/
def fx (x : Instr) (σ : State) : Effect :=
  match x with
  | .nop => fxNop σ
  | .nopHi => fxNopHi σ
  | .clrd rd => fxClrd rd σ
  | .asx2 rt rs rd => fxAsx2 rt rs rd σ
  | .addd rt rs rd => fxAddd rt rs rd σ
  | .asxs rt rs rd => fxAsxs rt rs rd σ
  | .subd rt rs rd => fxSubd rt rs rd σ
  | .asxs2 rt rs rd => fxAsxs2 rt rs rd σ
  | .adcd rt rs rd => fxAdcd rt rs rd σ
  | .a4 rt rs rd => fxA4 rt rs rd σ
  | .sbcd rt rs rd => fxSbcd rt rs rd σ
  | .a8 rt rs rd => fxA8 rt rs rd σ
  | .addld rt rs rd => fxAddld rt rs rd σ
  | .s4 rt rs rd => fxS4 rt rs rd σ
  | .trs16 rs rd => fxTrs16 rs rd σ
  | .s8 rt rs rd => fxS8 rt rs rd σ
  | .fasx rt rs rd => fxFasx rt rs rd σ
  | .ra4 rt rs rd => fxRa4 rt rs rd σ
  | .fasxs rt rs rd => fxFasxs rt rs rd σ
  | .ra8 rt rs rd => fxRa8 rt rs rd σ
  | .fax rt rs rd => fxFax rt rs rd σ
  | .sga4 rt rs rd => fxSga4 rt rs rd σ
  | .fsx rt rs rd => fxFsx rt rs rd σ
  | .sga8 rt rs rd => fxSga8 rt rs rd σ
  | .trs17 rs rd => fxTrs17 rs rd σ
  | .a8s rt rs rd => fxA8s rt rs rd σ
  | .trs18 rt rs rd => fxTrs18 rt rs rd σ
  | .ms2 rt rs rd => fxMs2 rt rs rd σ
  | .trs19 rs rd => fxTrs19 rs rd σ
  | .ms4 rt rs rd => fxMs4 rt rs rd σ
  | .fsa rt rs rd => fxFsa rt rs rd σ
  | .ms8 rt rs rd => fxMs8 rt rs rd σ
  | .trs0 rs rd => fxTrs0 rs rd σ
  | .s8s rt rs rd => fxS8s rt rs rd σ
  | .trs1 rt rs rd => fxTrs1 rt rs rd σ
  | .negde rs rd => fxNegde rs rd σ
  | .trs2 rt rs rd => fxTrs2 rt rs rd σ
  | .allft41 rs rd => fxAllft41 rs rd σ
  | .trs3 rt rs rd => fxTrs3 rt rs rd σ
  | .allft22 rs rd => fxAllft22 rs rd σ
  | .trs4 rs rd => fxTrs4 rs rd σ
  | .all4 rt rs rd => fxAll4 rt rs rd σ
  | .trs5 rs rd => fxTrs5 rs rd σ
  | .all2 rt rs rd => fxAll2 rt rs rd σ
  | .trs6 rs rd => fxTrs6 rs rd σ
  | .al4 rt rs rd => fxAl4 rt rs rd σ
  | .trs7 rs rd => fxTrs7 rs rd σ
  | .al2 rt rs rd => fxAl2 rt rs rd σ
  | .trs8 rs rd => fxTrs8 rs rd σ
  | .norvd rs rd => fxNorvd rs rd σ
  | .trs9 rs rd => fxTrs9 rs rd σ
  | .a81 rs rd => fxA81 rs rd σ
  | .trs10 rs rd => fxTrs10 rs rd σ
  | .a42 rs rd => fxA42 rs rd σ
  | .trs11 rt rs rd => fxTrs11 rt rs rd σ
  | .a24 rs rd => fxA24 rs rd σ
  | .trs12 rt rs rd => fxTrs12 rt rs rd σ
  | .bf4 rt rs rd => fxBf4 rt rs rd σ
  | .trs13 rt rs rd => fxTrs13 rt rs rd σ
  | .bif4 rt rs rd => fxBif4 rt rs rd σ
  | .trs14 rt rs rd => fxTrs14 rt rs rd σ
  | .axj4 rt rs rd => fxAxj4 rt rs rd σ
  | .trs15 rs rd => fxTrs15 rs rd σ
  | .sxj4 rt rs rd => fxSxj4 rt rs rd σ
  | .cmpn4 rt rs rd => fxCmpn4 rt rs rd σ
  | .cmpn8 rt rs rd => fxCmpn8 rt rs rd σ
  | .andd rt rs rd => fxAndd rt rs rd σ
  | .cmpz4 rt rs rd => fxCmpz4 rt rs rd σ
  | .andcd rt rs rd => fxAndcd rt rs rd σ
  | .cmpz8 rt rs rd => fxCmpz8 rt rs rd σ
  | .andid rt rs rd => fxAndid rt rs rd σ
  | .cmpnl2 rt rs rd => fxCmpnl2 rt rs rd σ
  | .insd rt rs rd => fxInsd rt rs rd σ
  | .cmpnl4 rt rs rd => fxCmpnl4 rt rs rd σ
  | .ord rt rs rd => fxOrd rt rs rd σ
  | .cmpzl2 rt rs rd => fxCmpzl2 rt rs rd σ
  | .orcd rt rs rd => fxOrcd rt rs rd σ
  | .cmpzl4 rt rs rd => fxCmpzl4 rt rs rd σ
  | .orid rt rs rd => fxOrid rt rs rd σ
  | .max4 rt rs rd => fxMax4 rt rs rd σ
  | .eord rt rs rd => fxEord rt rs rd σ
  | .max8 rt rs rd => fxMax8 rt rs rd σ
  | .notd rs rd => fxNotd rs rd σ
  | .min4 rt rs rd => fxMin4 rt rs rd σ
  | .trd rs rd => fxTrd rs rd σ
  | .min8 rt rs rd => fxMin8 rt rs rd σ
  | .maxl2 rt rs rd => fxMaxl2 rt rs rd σ
  | .pdnxl rs rd => fxPdnxl rs rd σ
  | .maxl4 rt rs rd => fxMaxl4 rt rs rd σ
  | .pdnde rs rd => fxPdnde rs rd σ
  | .minl2 rt rs rd => fxMinl2 rt rs rd σ
  | .pdnd rs rd => fxPdnd rs rd σ
  | .minl4 rt rs rd => fxMinl4 rt rs rd σ
  | .nopB => fxNopB σ
  | .nopBHi => fxNopBHi σ
  | .nopBMid => fxNopBMid σ
  | .mfx rt rs rd => fxMfx rt rs rd σ
  | .fm2 rt rs rd => fxFm2 rt rs rd σ
  | .mfxc rt rs rd => fxMfxc rt rs rd σ
  | .fms2 rt rs rd => fxFms2 rt rs rd σ
  | .mfx2 rt rs rd => fxMfx2 rt rs rd σ
  | .mfxc2 rt rs rd => fxMfxc2 rt rs rd σ
  | .trs16B rs rd => fxTrs16B rs rd σ
  | .mf4 rt rs rd => fxMf4 rt rs rd σ
  | .mf8 rt rs rd => fxMf8 rt rs rd σ
  | .trs17B rs rd => fxTrs17B rs rd σ
  | .ml2 rt rs rd => fxMl2 rt rs rd σ
  | .trs18B rt rs rd => fxTrs18B rt rs rd σ
  | .uml rt rs rd => fxUml rt rs rd σ
  | .trs19B rs rd => fxTrs19B rs rd σ
  | .uml2 rt rs rd => fxUml2 rt rs rd σ
  | .mfa81 rt rs rd => fxMfa81 rt rs rd σ
  | .trs0B rs rd => fxTrs0B rs rd σ
  | .mfa41 rt rs rd => fxMfa41 rt rs rd σ
  | .trs1B rt rs rd => fxTrs1B rt rs rd σ
  | .mfa42 rt rs rd => fxMfa42 rt rs rd σ
  | .trs2B rt rs rd => fxTrs2B rt rs rd σ
  | .mfa21 rt rs rd => fxMfa21 rt rs rd σ
  | .trs3B rt rs rd => fxTrs3B rt rs rd σ
  | .mfa22 rt rs rd => fxMfa22 rt rs rd σ
  | .trs4B rs rd => fxTrs4B rs rd σ
  | .mfa24 rt rs rd => fxMfa24 rt rs rd σ
  | .trs5B rs rd => fxTrs5B rs rd σ
  | .m4 rt rs rd => fxM4 rt rs rd σ
  | .trs6B rs rd => fxTrs6B rs rd σ
  | .m2 rt rs rd => fxM2 rt rs rd σ
  | .trs7B rs rd => fxTrs7B rs rd σ
  | .trs8B rs rd => fxTrs8B rs rd σ
  | .trs9B rs rd => fxTrs9B rs rd σ
  | .lsldi imm rs rd => fxLsldi imm rs rd σ
  | .trs10B rs rd => fxTrs10B rs rd σ
  | .lslxl rt rs rd => fxLslxl rt rs rd σ
  | .trs11B rt rs rd => fxTrs11B rt rs rd σ
  | .trs12B rt rs rd => fxTrs12B rt rs rd σ
  | .asldi imm rs rd => fxAsldi imm rs rd σ
  | .trs13B rt rs rd => fxTrs13B rt rs rd σ
  | .aslxl rt rs rd => fxAslxl rt rs rd σ
  | .trs14B rt rs rd => fxTrs14B rt rs rd σ
  | .trdB rs rd => fxTrdB rs rd σ
  | .trs15B rs rd => fxTrs15B rs rd σ
  | .lsld rt rs rd => fxLsld rt rs rd σ
  | .macx rt rs n => fxMacx rt rs n σ
  | .rold rs rd => fxRold rs rd σ
  | .macx2 rt rs n => fxMacx2 rt rs n σ
  | .macxc rt rs n => fxMacxc rt rs n σ
  | .asld rt rs rd => fxAsld rt rs rd σ
  | .macxc2 rt rs n => fxMacxc2 rt rs n σ
  | .asrde rt rs rd => fxAsrde rt rs rd σ
  | .mac41 rt rs n => fxMac41 rt rs n σ
  | .mac81 rt rs n => fxMac81 rt rs n σ
  | .btstdi imm rs => fxBtstdi imm rs σ
  | .macxb4 rt rs n => fxMacxb4 rt rs n σ
  | .lsrdi imm rs rd => fxLsrdi imm rs rd σ
  | .macl2 rt rs n => fxMacl2 rt rs n σ
  | .lsrxl rt rs rd => fxLsrxl rt rs rd σ
  | .clrac rt => fxClrac rt σ
  | .ldac rt rd => fxLdac rt rd σ
  | .asrdi imm rs rd => fxAsrdi imm rs rd σ
  | .ldacd rt rd => fxLdacd rt rd σ
  | .asrxl rt rs rd => fxAsrxl rt rs rd σ
  | .stac rt rs => fxStac rt rs σ
  | .stacd rt rs => fxStacd rt rs σ
  | .smbd rs rd => fxSmbd rs rd σ
  | .lsrd rt rs rd => fxLsrd rt rs rd σ
  | .mac42 rt rs n => fxMac42 rt rs n σ
  | .rord rs rd => fxRord rs rd σ
  | .mac24 rt rs n => fxMac24 rt rs n σ
  | .btstd rt rs => fxBtstd rt rs σ
  | .mac22 rt rs n => fxMac22 rt rs n σ
  | .mac21 rt rs n => fxMac21 rt rs n σ
  | .asrd rt rs rd => fxAsrd rt rs rd σ
  | .mac18 rt rs => fxMac18 rt rs σ
  | .mac14 rt rs n => fxMac14 rt rs n σ
  | .mac12 rt rs n => fxMac12 rt rs n σ
  | .mac11 rt rs n => fxMac11 rt rs n σ
  | .acsg8 rt rs => fxAcsg8 rt rs σ
  | .acsg4 rt rs n => fxAcsg4 rt rs n σ
  | .acsg2 rt rs n => fxAcsg2 rt rs n σ
  | .acsg1 rt rs n => fxAcsg1 rt rs n σ
  | .move9aX r u mode a de => fxMove9aX r u mode a de σ
  | .move9aY aT u => fxMove9aY aT u σ
  | .move9bR rs rd l => fxMove9bR rs rd l σ
  | .move9bY aT u => fxMove9bY aT u σ
  | .move9dRC rr rc l de => fxMove9dRC rr rc l de σ
  | .rti cc => fxRti cc σ

end Sys2Proof.Machine
end

