-- ==== Sys2Proof/Machine/Execute.lean ====
section
/-! DEFINITION. Executing whole instructions: the parallel parts of a bundle (30_encoding.md R174), base-set statements
(40_moves.md R203, 41_control_and_changed_results.md R210..R219), the fetch (30_encoding.md R130..R132), breakpoints and
one step of a core in the order of 60_exceptions.md R497. -/

namespace Sys2Proof.Machine

/-- The parts of an instruction with the writes each makes. -/
abbrev Gathered := List (Instr × List Write)

/-- The writes of all parts, from the one state before the instruction; the first refusal stops it (R174). -/
def gather (σ : State) : List Instr → Except Refusal Gathered
  | [] => .ok []
  | x :: rest =>
    match fx x σ with
    | .error r => .error r
    | .ok ws =>
      match gather σ rest with
      | .error r => .error r
      | .ok g => .ok ((x, ws) :: g)

/-- All writes of an instruction, in the order of its parts. -/
def Gathered.writes (g : Gathered) : List Write := g.flatMap (·.2)

/-- Whether two parts touch a common bit of what `f` measures; `seen` = what earlier parts touch. -/
def clash {n : Nat} (f : Write → BitVec n) (seen : BitVec n) : Gathered → Bool
  | [] => false
  | (_, ws) :: rest => (seen &&& unionOf f ws) != 0 || clash f (seen ||| unionOf f ws) rest

/-- The XYRAM words a list of writes stores to. -/
def storedWords : List Write → List Half
  | [] => []
  | .word a _ :: rest => a :: storedWords rest
  | _ :: rest => storedWords rest

/-- The XYRAM words the Y move of an instruction reads (R182). -/
def loadedByY (σ : State) : Bundle → List Half
  | .f9a _ _ _ u _ _ _ _ => (List.range (wordsOf u)).map fun j => σ.me.ptrT.extractLsb' 0 16 + BitVec.ofNat 16 j
  | _ => []

/-- Whether the move of an instruction writes CCR (R201). -/
def writesCcr (σ : State) : Bundle → Bool
  | .f9d _ _ _ rc _ de => rc == .ccr && de == σ.cfg.deDir
  | _ => false

/-- A compute operation of the instruction reads or writes C or V. -/
def flagsUsed (b : Bundle) : Bool := b.parts.any usesFlags

/-- The conflicts inside one instruction (30_encoding.md R174, 40_moves.md R182, R190, R195, R201). DESIGN CHOICE (log
entry 27): a 9d move into AC[n] beside an LDAC or LDACD that reads AC[n] is no conflict, and LDAC or LDACD reads the old
value; R201 allows a move into a register that the compute operations read, R174 with 92_eei_decisions.md D41 can be read
otherwise for an accumulator. DESIGN CHOICE (log entry 27): NEGDE, which writes V, beside RORD, ROLD, BTSTD or BTSTDi,
which write C, is no conflict, and both bits are written; R174 speaks of a control register, and 48_alu64.md R405 (f)
settles only what is read. DESIGN CHOICE (log entry 27): a search that finds no new extremum counts as a write of its D
(47_compare_minmax.md R389..R396). -/
def conflictOf (σ : State) (b : Bundle) (g : Gathered) : Option Refusal :=
  if clash Write.units 0 g then some .partConflict
  else if clash Write.accs 0 g then some .partConflict
  else if (storedWords g.writes).any fun a => (loadedByY σ b).contains a then some .storeLoadOverlap
  else if writesCcr σ b && flagsUsed b then some .ccrConflict
  else none

/-- The 16-bit registers among register-file units, bit n for R[n] (R531). -/
def regs16 (units : BitVec 128) : BitVec 32 :=
  (List.range 32).foldl (fun m n => setBit m n (units.getLsbD (8 * (n / 2) + n % 2))) 0

/-- The units the parts of one kind touch. -/
def unitsOf (place : Place → Bool) : Gathered → BitVec 128
  | [] => 0
  | (x, ws) :: rest => (if place x.place then unionOf Write.units ws else 0) ||| unitsOf place rest

/-- The trace of a bundle: σ before it, σ' after its writes (R535). -/
def traceOf (σ σ' : State) (g : Gathered) : Trace where
  addrRegs := unionOf Write.addrRegs g.writes
  byMove := regs16 (unitsOf (· == .move) g)
  byCompute := regs16 (unitsOf (fun p => p == .op1 || p == .op2) g)
  ymChanged := σ.me.ym != σ'.me.ym

/-- An instruction has executed: the pc, the hazard history (three instructions, R535), the end of a wait (R117) and of
a breakpoint stop. -/
def State.retire (σ : State) (pc : Half) (t : Trace) : State :=
  σ.onMe fun k => { k with pc := pc, hist := (t :: k.hist).take 3, bpAt := none, dbBpAt := none, held := none,
                           dcsr := setBit k.dcsr 4 false }

/-- With SR.BD = 1 only the move that writes SR back with BD = 0 may execute (R534): format 9d with NOP in both
compute slots. -/
def clearsBd (σ : State) : Bundle → Bool
  | .f9d op1 op2 rr rc _ de =>
    rc == .sr && de == σ.cfg.deDir && !(σ.me.h rr).getLsbD 10 && (op1 == .nop || op1 == .nopHi) &&
      (op2 == .nopB || op2 == .nopBMid || op2 == .nopBHi)
  | _ => false

/-- The pc after a bundle: two words on, or where RTI went (R132, R211). -/
def pcAfter (σ σ' : State) : Bundle → Half
  | .rti _ => σ'.me.pc
  | _ => σ.me.pc + 2

/-- A whole instruction of formats 9a, 9b, 9d, or RTI: all parts read the old state, then all write (R174); an XBUF
access that must wait holds all of it (R193). -/
def runBundle (b : Bundle) (σ : State) : Host.Outcome State Fault Refusal :=
  if σ.me.bd && !clearsBd σ b then .refused .blockingDisabled
  else
    match gather σ b.parts with
    | .error r => .refused r
    | .ok g =>
      match conflictOf σ b g with
      | some r => .refused r
      | none =>
        if blocked g.writes then .next (σ.hold (.bundle b))
        else
          let σ' := commitAll g.writes σ
          .next (σ'.retire (pcAfter σ σ' b) (traceOf σ σ' g))

/-! ### Base-set statements -/

/-- The halfword of a memory word that a 16-bit datum uses (91_not_in_source.md N12: a parameter). -/
def halfOf (cfg : Config) (w : Word) : Half := if cfg.half16High then w.extractLsb' 16 16 else w.extractLsb' 0 16

/-- The most recent `n` traces. -/
def recent (σ : State) (n : Nat) : List Trace := σ.me.hist.take n

/-- DO on a 16-bit register written by one of the last two instructions with a move, or by one of the last three with a
compute operation (R531). -/
def doTooSoon (σ : State) (rn : Reg) : Bool :=
  ((recent σ 2).any fun t => t.byMove.getLsbD rn.toNat) || ((recent σ 3).any fun t => t.byCompute.getLsbD rn.toNat)

/-- What a base-set statement writes, in one word or two (`wide`) (R197, R198, R203, R210, R214, R215, R219). -/
def stmtEffect (st : Stmt) (wide : Bool) (σ : State) : Effect :=
  match st with
  | .moveRf .w16 src dst => .ok [.h dst (σ.me.h src)]
  | .moveRf .w32 src dst => .ok [.l dst (σ.me.l src)]
  | .moveRf .w64 src dst => .ok [.d dst (σ.me.d src)]
  | .moveRf .w128 src dst => needQuad [src, dst] (.ok [.q dst (σ.me.q src)])
  | .moveRc rc w toRc rr => if widthBase wide rc w then moveCtl σ rc w toRc rr else .error .widthBit
  | .moveImmSr v => .ok [.ctl .sr (v.setWidth 32)]
  | .loadT rd =>
    if ymFresh σ then .error .ymHazard
    else throughPointer σ .ptrT σ.me.ptrT .postAddOffset 1 σ.me.dt fun w =>
      readMarks σ w 1 ++ [.h rd (halfOf σ.cfg ((σ.viewFor w).readOne w (8 * σ.free)))]
  | .jumpAn n =>
    if (recent σ 1).any fun t => t.addrRegs.getLsbD n.toNat then .error .jumpHazard
    else .ok [.jump ((σ.me.getA n).extractLsb' 0 16)]
  | .jumpTo t => .ok [.jump t]
  | .doLoop rn => if doTooSoon σ rn then .error .doHazard else .error (.baseInstruction "DO")
  | .stop => .ok [.halt]
  | .nop => .ok []
  | .other m => .error (.baseInstruction m)

/-- Whether a statement sets the pc itself. -/
def isJump : Stmt → Bool
  | .jumpAn _ => true
  | .jumpTo _ => true
  | _ => false

/-- With SR.BD = 1 only a move of a value with BD = 0 into SR may execute (R534). -/
def stmtClearsBd (σ : State) : Stmt → Bool
  | .moveImmSr v => !v.getLsbD 10
  | .moveRc .sr _ true rr => !(σ.me.h rr).getLsbD 10
  | _ => false

/-- The trace of a statement: its register writes are a move's. -/
def stmtTrace (σ σ' : State) (ws : List Write) : Trace where
  addrRegs := unionOf Write.addrRegs ws
  byMove := regs16 (unionOf Write.units ws)
  byCompute := 0
  ymChanged := σ.me.ym != σ'.me.ym

/-- A base-set statement as a whole instruction. -/
def runStmt (st : Stmt) (wide : Bool) (σ : State) : Host.Outcome State Fault Refusal :=
  if σ.me.bd && !stmtClearsBd σ st then .refused .blockingDisabled
  else
    match stmtEffect st wide σ with
    | .error r => .refused r
    | .ok ws =>
      if blocked ws then .next (σ.hold (.base st wide))
      else
        let σ' := commitAll ws σ
        let pc := if isJump st then σ'.me.pc else σ.me.pc + (if wide then 2 else 1)
        .next (σ'.retire pc (stmtTrace σ σ' ws))

/-- Execute an instruction. -/
def runInsn (x : Insn) (σ : State) : Host.Outcome State Fault Refusal :=
  match x with
  | .bundle b => runBundle b σ
  | .base st wide => runStmt st wide σ

/-! ### Fetch -/

/-- The refusal of words that do not decode (R166). -/
def decodeRefusal : DecodeError → Refusal
  | .baseFormat => .baseFormat
  | .reservedOp1 => .reservedCode
  | .reservedOp2 => .reservedCode
  | .reservedOp3 => .reservedCode
  | .reservedRc => .reservedCode

/-- What a fetch gives. -/
inductive Fetched where
  | insn (x : Insn)
  | refused (r : Refusal)
  deriving DecidableEq, Repr

/-- Fetch at the pc: W1 at pc, W2 at pc + 1 (R131); no fetch above 0x1FFF (R527). -/
def fetch (σ : State) : Fetched :=
  let p := σ.me.pc.toNat
  if 0x1FFF < p then .refused .pcOutsidePram
  else
    match σ.me.baseCode.find? fun e => e.addr.toNat == p with
    | some e => if e.wide && p == 0x1FFF then .refused .pcOutsidePram else .insn (.base e.stmt e.wide)
    | none =>
      let w1 := σ.pram σ.turn p
      if isWide w1 && p == 0x1FFF then .refused .pcOutsidePram
      else
        match decode σ.cfg.opRts w1 (if isWide w1 then σ.pram σ.turn (p + 1) else 0) with
        | .ok b => .insn (.bundle b)
        | .error e => .refused (decodeRefusal e)

/-- Fetch, decode, execute one instruction. -/
def runNext (σ : State) : Host.Outcome State Fault Refusal :=
  match fetch σ with
  | .insn x => runInsn x σ
  | .refused r => .refused r

/-! ### One step of a core -/

/-- The pc lies in PRAM. A breakpoint value above 0x1FFF equals no PC (60_exceptions.md R487, "disarmed"), so at a pc
above 0x1FFF no breakpoint matches and the fetch refuses (70_reset_and_hazards.md R527). -/
def Core.inPram (k : Core) : Bool := k.pc.toNat ≤ 0x1FFF

/-- A regular breakpoint matches (R487). -/
def Core.sarMatch (k : Core) : Bool := k.run && k.inPram && k.sars.toList.contains k.pc
/-- A debug breakpoint matches (R486). -/
def Core.dbSarMatch (k : Core) : Bool := k.dbRun && k.inPram && k.dbSars.toList.contains k.pc

/-- The core already stopped at this address and it is still armed (R487). -/
def Core.rearmed (k : Core) : Bool :=
  (k.sarMatch && k.bpAt == some k.pc) || (k.dbSarMatch && k.dbBpAt == some k.pc)

/-- The stop at a regular breakpoint: BRK is set, RUN is cleared, the pc stays (R487). -/
def Core.sarStop (k : Core) : Core :=
  if k.sarMatch then { k with dcsr := setBit (setBit k.dcsr 2 true) 14 false, bpAt := some k.pc } else k
/-- The stop at a debug breakpoint: dbBRK is set, dbRUN is cleared (R486). -/
def Core.dbSarStop (k : Core) : Core :=
  if k.dbSarMatch then { k with dbDcsr := setBit (setBit k.dbDcsr 2 true) 14 false, dbBpAt := some k.pc } else k

/-- One step of the core whose turn it is (R497): a gated core makes none; a core that has had a stack error may not go
on; a held XBUF access is tested again; then the breakpoints, the interrupt (taken or left), the next instruction. -/
def coreStep (take : Bool) (σ : State) : Host.Outcome State Fault Refusal :=
  let k := σ.me
  if !σ.clk σ.turn then .next σ
  else if k.stackErr && (!k.stopped || (take && k.accepts)) then .refused .stackError
  else
    match k.held with
    | some x => runInsn x σ
    | none =>
      if k.sarMatch || k.dbSarMatch then
        if k.rearmed then .refused .breakpointRestart
        else .next (σ.onMe fun k => { k.sarStop with dbDcsr := k.dbSarStop.dbDcsr, dbBpAt := k.dbSarStop.dbBpAt })
      else if take && k.accepts then takeInterrupt σ
      else if !k.stopped then runNext σ
      else .next σ

end Sys2Proof.Machine
end

