-- ==== Sys2Proof/Machine/Bus.lean ====
section
/-! DEFINITION. The outside of the cluster: the CPU and DMA address map (20_memory.md R91..R97, R101), what a bus access
does to every register and memory (10_state.md; 60_exceptions.md R475..R477, R484), QSTR_DSP (R480), the timer, the
clocks, and the actions as events. -/

namespace Sys2Proof.Machine

/-- A register of a core as the bus sees it (R95). -/
inductive Window where
  /-- R[n].L. -/
  | rl (n : Reg)
  /-- A half of R[n].D, n odd. -/
  | rdHalf (n : Reg) (upper : Bool)
  /-- A register that also has an RC code. -/
  | ctl (rc : CReg)
  | dbDcsr
  | cntRun
  /-- dbPCe, a, f, d, e1, e2, e3. -/
  | dbPc (k : BitVec 3)
  /-- dbSAR (0), dbSAR1..7. -/
  | dbSar (k : BitVec 3)
  | dbCntr
  deriving DecidableEq, Repr

/-- What a word address of the bus reaches (R91). -/
inductive Target where
  | xyram (w : Half)
  | pram (c : CoreId) (p : BitVec 13)
  | reg (c : CoreId) (r : Window)
  | maskr
  | qstr
  | csr
  | xbuf (k : BitVec 5) (upper : Bool)
  deriving DecidableEq, Repr

/-- The PCU registers from offset 0x100 in steps of 4 (R95). -/
def pcuWindow : Nat → Option CReg
  | 0 => some .dcsr
  | 1 => some .sr
  | 2 => some .idr
  | 3 => some .efr
  | 4 => some .irqr
  | 5 => some .imaskr
  | 6 => some .tmr
  | 7 => some .arbr
  | 8 => some .pc
  | 9 => some .ss
  | 10 => some .la
  | 11 => some .csl
  | 12 => some .lc
  | 13 => some .csh
  | 14 => some .sp
  | 15 => some (.sar 0)
  | 16 => some .cntr
  | 17 => some (.sar 1)
  | 18 => some (.sar 2)
  | 19 => some (.sar 3)
  | 20 => some (.sar 4)
  | 21 => some (.sar 5)
  | 22 => some (.sar 6)
  | 23 => some (.sar 7)
  | 24 => some .ccr
  | 25 => some .pdnr
  | 26 => some .sfr
  | _ => none

/-- The register at an offset from BASE(i), a multiple of 4 (R95). -/
def window (o : Nat) : Option Window :=
  if o < 0x40 then some (.rl (BitVec.ofNat 5 (2 * (o / 4))))
  else if o < 0x80 then some (.rl (BitVec.ofNat 5 (2 * ((o - 0x40) / 4) + 1)))
  else if o < 0xA0 then some (.ctl (.a (BitVec.ofNat 3 ((o - 0x80) / 4))))
  else if o < 0xC0 then some (.ctl (.i (BitVec.ofNat 3 ((o - 0xA0) / 4))))
  else if o < 0xE0 then some (.ctl (.m (BitVec.ofNat 3 ((o - 0xC0) / 4))))
  else if o = 0xE0 then some (.ctl .ptrT)
  else if o = 0xE4 then some (.ctl .it)
  else if o = 0xE8 then some (.ctl .mt)
  else if o = 0xEC then some (.ctl .dt)
  else if o = 0xFC then some (.ctl .ivar)
  else if o < 0x100 then none
  else if o < 0x16C then (pcuWindow ((o - 0x100) / 4)).map .ctl
  else if o < 0x180 then none
  else if o < 0x200 then some (.rdHalf (BitVec.ofNat 5 (2 * ((o - 0x180) / 8) + 1)) (o % 8 == 4))
  else if o < 0x240 then some (.ctl (.ac (BitVec.ofNat 4 ((o - 0x200) / 4))))
  else if o = 0x500 then some .dbDcsr
  else if o = 0x518 then some .cntRun
  else if 0x520 ≤ o ∧ o < 0x53C then some (.dbPc (BitVec.ofNat 3 ((o - 0x520) / 4)))
  else if o = 0x53C then some (.dbSar 0)
  else if o = 0x540 then some .dbCntr
  else if 0x544 ≤ o ∧ o < 0x560 then some (.dbSar (BitVec.ofNat 3 ((o - 0x540) / 4)))
  else none

/-- The target of a byte address that is a multiple of 4 (R91..R96); `none` for a reserved address. -/
def target (a : Nat) : Option Target :=
  if 0x18400000 ≤ a ∧ a < 0x18420000 then some (.xyram (BitVec.ofNat 16 ((a - 0x18400000) / 4)))
  else if 0x18440000 ≤ a ∧ a < 0x18448000 then some (.pram .dsp0 (BitVec.ofNat 13 ((a - 0x18440000) / 4)))
  else if 0x18480000 ≤ a ∧ a < 0x18480560 then (window (a - 0x18480000)).map (.reg .dsp0)
  else if a = 0x18481000 then some .maskr
  else if a = 0x18481004 then some .qstr
  else if a = 0x18481008 then some .csr
  else if 0x187FFF00 ≤ a ∧ a < 0x18800000 then
    some (.xbuf (BitVec.ofNat 5 ((a - 0x187FFF00) / 8)) (a % 8 == 4))
  else if 0x18800000 ≤ a ∧ a < 0x18820000 then some (.xyram (BitVec.ofNat 16 (0x8000 + (a - 0x18800000) / 4)))
  else if 0x18840000 ≤ a ∧ a < 0x18848000 then some (.pram .dsp1 (BitVec.ofNat 13 ((a - 0x18840000) / 4)))
  else if 0x18880000 ≤ a ∧ a < 0x18880560 then (window (a - 0x18880000)).map (.reg .dsp1)
  else none

/-- The core whose clock domain a target belongs to; `none` = the CPU's, always reachable (R121). -/
def Target.domain : Target → Option CoreId
  | .xyram w => some (if w.getLsbD 15 then .dsp1 else .dsp0)
  | .pram c _ => some c
  | .reg c _ => some c
  | .xbuf _ _ => some .dsp0
  | .maskr => none
  | .qstr => none
  | .csr => none

/-- The target can be reached with the clocks as they are (R121). -/
def State.reachable (σ : State) (t : Target) : Bool :=
  match t.domain with
  | none => true
  | some c => σ.clk c

/-- QSTR_DSP, a window on the flags of both cores (R65, R480, R483). -/
def State.qstr (σ : State) : Word :=
  let flags (k : Core) : BitVec 4 := k.dcsr.extractLsb' 0 4
  0#3 ++ BitVec.ofBool (σ.core0.wait && σ.core1.wait) ++ 0#16 ++ flags σ.core1 ++ 0#4 ++ flags σ.core0

/-- The interrupt request to the CPU (R480). -/
def State.cpuRequest (σ : State) : Bool := (σ.qstr &&& σ.maskr) != 0

/-- A bus read returns a value. -/
def State.returns (σ : State) (v : Word) : State := { σ with busData := v.setWidth 64 }

/-- CCR has been read: its value may be written back (R194). -/
def Core.sawCcr (k : Core) : Core :=
  { k with ccrSeen := if k.ccrSeen.contains k.ccr then k.ccrSeen else k.ccr :: k.ccrSeen }

/-- A bus read of a register of core c (10_state.md; R490: Cnt_RUN and dbPCx read free values, Cnt_RUN not below the
last one since the start). -/
def readWindow (σ : State) (c : CoreId) (r : Window) : State :=
  let k := σ.core c
  match r with
  | .rl n => σ.returns (k.l n)
  | .rdHalf n upper => σ.returns (wp (k.d n) (if upper then 1 else 0))
  | .ctl .ccr => (σ.onCore c Core.sawCcr).returns (k.ccr.setWidth 32)
  | .ctl rc => σ.returns (σ.getCtl c rc)
  | .dbDcsr => σ.returns (k.dbDcsr.setWidth 32)
  | .cntRun =>
    let v := if Config.freeWord σ.free < k.cntRun then k.cntRun else Config.freeWord σ.free
    { (σ.onCore c fun k => { k with cntRun := v }).returns v with free := σ.free + 1 }
  | .dbPc j =>
    let v := (Config.freeWord σ.free).extractLsb' 0 16
    { (σ.onCore c fun k => { k with dbPc := k.dbPc.setIfInBounds j.toNat v }).returns (v.setWidth 32) with
      free := σ.free + 1 }
  | .dbSar j => σ.returns ((k.dbSars[j.toNat]'j.isLt).setWidth 32)
  | .dbCntr => σ.returns (k.dbCntr.setWidth 32)

/-- A 32-bit bus read (R91..R97, R101, R113..R116, R121). -/
def busRead (addr : Word) (σ : State) : Host.Outcome State Fault Refusal :=
  if addr.toNat % 4 ≠ 0 then .refused .narrowAccess
  else
    match target addr.toNat with
    | none => .refused .reservedAddress
    | some t =>
      if !σ.reachable t then .refused .clockOff
      else
        match t with
        | .xyram w => .next (σ.returns (σ.xy w))
        | .pram c p => .next (σ.returns (σ.pram c p.toNat))
        | .reg c r => .next (readWindow σ c r)
        | .maskr => .next (σ.returns σ.maskr)
        | .qstr => .next (σ.returns σ.qstr)
        | .csr =>
          .next { σ.returns (setBit σ.csr 0 ((Config.freeWord σ.free).getLsbD 0)) with free := σ.free + 1 }
        | .xbuf k upper =>
          let x := σ.xbuf[k.toNat]'k.isLt
          if upper then .next (σ.returns (wp x 1))
          else .next ({ σ with efr := setBit σ.efr k.toNat false }.returns (wp x 0))

/-- A bus write of a register of core c (10_state.md, R475, R476, R486). CCR takes any value (20_memory.md R95,
70_reset_and_hazards.md R526): only a move into CCR is restricted (40_moves.md R194). -/
def writeWindow (σ : State) (c : CoreId) (r : Window) (v : Word) : Host.Outcome State Fault Refusal :=
  let h := v.extractLsb' 0 16
  match r with
  | .rl n => .next (σ.onCore c fun k => k.setL n v)
  | .rdHalf n upper =>
    .next (σ.onCore c fun k => k.setD n (if upper then two32 v (wp (k.d n) 0) else two32 (wp (k.d n) 1) v))
  | .ctl .efr => .refused .cpuDstart
  | .ctl .ccr => .next (σ.onCore c fun k => k.setCtl .ccr v)
  | .ctl rc =>
    match ctlRefusal (σ.core c) rc v with
    | some e => .refused e
    | none => .next (σ.onCore c fun k => k.setCtl rc v)
  | .dbDcsr => if within dbDcsrDefined h then .next (σ.onCore c fun k => k.writeDbDcsr h) else .refused .reservedBit
  | .cntRun => .next σ
  | .dbPc _ => .next σ
  | .dbSar j => .next (σ.onCore c fun k => { k with dbSars := k.dbSars.set j.toNat h j.isLt })
  | .dbCntr => .next (σ.onCore c fun k => { k with dbCntr := h })

/-- A write of CSR_DSP, which is reachable whatever the clocks (20_memory.md R121): SYNWORK is stored; SYNSTART = 1 sets
RUN of both cores in one step (10_state.md R66, 60_exceptions.md R484). DESIGN CHOICE (log entry 33): RUN of a core whose
clock is off is set too; R484 states the start without a condition on the clocks, and such a core makes no step. -/
def writeCsr (σ : State) (v : Word) : Host.Outcome State Fault Refusal :=
  if !within csrDefined v then .refused .reservedBit
  else if v.getLsbD 0 then
    .next { σ with csr := v &&& 2, core0 := σ.core0.startRun, core1 := σ.core1.startRun }
  else .next { σ with csr := v &&& 2 }

/-- A 32-bit bus write (R91..R97, R101, R112..R116, R121). -/
def busWrite (addr v : Word) (σ : State) : Host.Outcome State Fault Refusal :=
  if addr.toNat % 4 ≠ 0 then .refused .narrowAccess
  else
    match target addr.toNat with
    | none => .refused .reservedAddress
    | some t =>
      if !σ.reachable t then .refused .clockOff
      else
        match t with
        | .xyram w => .next (σ.setXy w v)
        | .pram c p => if (σ.core c).stopped then .next (σ.setPram c p.toNat v) else .refused .pramRunning
        | .reg c r => writeWindow σ c r v
        | .maskr => .next { σ with maskr := v }
        | .qstr => .next σ
        | .csr => writeCsr σ v
        | .xbuf k upper =>
          let x := σ.xbuf[k.toNat]'k.isLt
          if upper then .next { σ with xbuf := σ.xbuf.set k.toNat (two32 v (wp x 0)) k.isLt }
          else
            .next { σ with xbuf := σ.xbuf.set k.toNat (two32 (wp x 1) v) k.isLt, efr := setBit σ.efr k.toNat true }

/-- Whether a 64-bit access may be made there: PRAM or XYRAM (R97). -/
def isMemory (a : Nat) : Bool :=
  match target a with
  | some (.xyram _) => true
  | some (.pram _ _) => true
  | _ => false

/-- A 64-bit DMA read: two words, the lower address less significant (R97, R100). -/
def dmaRead (addr : Word) (σ : State) : Host.Outcome State Fault Refusal :=
  if addr.toNat % 8 ≠ 0 then .refused .narrowAccess
  else if !isMemory addr.toNat then .refused .narrowAccess
  else
    match busRead addr σ with
    | .next σ1 =>
      match busRead (addr + 4) σ with
      | .next σ2 => .next { σ with busData := two32 (wp σ2.busData 0) (wp σ1.busData 0) }
      | .fault r => .fault r
      | .refused r => .refused r
    | .fault r => .fault r
    | .refused r => .refused r

/-- A 64-bit DMA write (R97, R100). -/
def dmaWrite (addr : Word) (v : Dbl) (σ : State) : Host.Outcome State Fault Refusal :=
  if addr.toNat % 8 ≠ 0 then .refused .narrowAccess
  else if !isMemory addr.toNat then .refused .narrowAccess
  else
    match busWrite addr (wp v 0) σ with
    | .next σ1 => busWrite (addr + 4) (wp v 1) σ1
    | .fault r => .fault r
    | .refused r => .refused r

/-- Whether the far writes of core c can land: the core whose segment they go to has its clock on. DESIGN CHOICE (log
entry 16): the clock of core c itself is not asked for, so the far writes of a gated core land too; the spec keeps the
state of a gated core (60_exceptions.md R492) and does not say what becomes of its pending far writes (R109). -/
def State.canLand (σ : State) (c : CoreId) : Bool := σ.clk c.other

/-- One action (60_exceptions.md R484). An action that cannot happen in this state (a timer request while TMR = 0, a
landing into a gated segment) changes nothing. -/
def runEvent (e : Event) (σ : State) : Host.Outcome State Fault Refusal :=
  match e with
  | .core c take => coreStep take { σ with turn := c }
  | .drain c => .next (if σ.canLand c then σ.landFirst c else σ)
  | .cpuRead addr => busRead addr σ
  | .cpuWrite addr v => busWrite addr v σ
  | .cpuNarrow _ => .refused .narrowAccess
  | .dmaRead addr => dmaRead addr σ
  | .dmaWrite addr v => dmaWrite addr v σ
  | .dmaRequest c k => .next (σ.raise c k.toNat)
  | .timer c => .next (if (σ.core c).tmr != 0 && σ.clk c then σ.raise c 28 else σ)
  | .clock en0 en1 => if !en0 && en1 then .refused .clockOrder else .next { σ with clk0 := en0, clk1 := en1 }

/-- A core that has something to do. -/
def State.canAct (σ : State) (c : CoreId) : Bool :=
  let k := σ.core c
  σ.clk c && (!k.stopped || k.held.isSome || k.accepts)

/-- Whose turn is next when no schedule is given: the other core's if it has something to do (DESIGN CHOICE, log entry
5). -/
def State.nextTurn (σ : State) : State :=
  if σ.canAct σ.turn.other then { σ with turn := σ.turn.other } else σ

/-- A step when no schedule is given: the far writes of the core whose turn it is land, it makes a step, taking an
interrupt as soon as it may, and the turn passes (DESIGN CHOICE, log entry 5: one of the schedules the spec allows). -/
def unscheduled (σ : State) : Host.Outcome State Fault Refusal :=
  let σ := if σ.canLand σ.turn then σ.landEvery σ.turn else σ
  match coreStep true σ with
  | .next σ' => .next σ'.nextTurn
  | .fault r => .fault r
  | .refused r => .refused r

/-- One step of the cluster: the next scheduled action, or a core's step when none is scheduled. -/
def stepOnce (σ : State) : Host.Outcome State Fault Refusal :=
  match σ.sched with
  | [] => unscheduled σ
  | e :: rest => runEvent e { σ with sched := rest }

/-- The core made ready to run the instruction at its pc: it runs through RUN, no wait, no stack error, no breakpoint
there, nothing to accept, SR.BD = 0; the pc is one with room for two words. -/
def Core.ready (k : Core) : Core :=
  let pc : Half := if 0x1FFE < k.pc.toNat then 0 else k.pc
  let disarm (v : Half) : Half := if v = pc then 0xFFFF else v
  { k with pc := pc, dcsr := setBit (setBit k.dcsr 14 true) 4 false, held := none, stackErr := false,
           sars := k.sars.map disarm, dbSars := k.dbSars.map disarm, bpAt := none, dbBpAt := none,
           imaskr := if ({ k with held := none } : Core).accepts then 0 else k.imaskr, sr := setBit k.sr 10 false }

/-- The words W1, W2 stored in PRAM at the pc of the core whose turn it is, and that core ready. It stands for a program
load by the CPU (70_reset_and_hazards.md R524). -/
def placeWords (σ : State) (w1 w2 : Word) : State :=
  let σ := { σ.onMe Core.ready with sched := [], clk0 := true, clk1 := σ.clk1 || σ.turn == CoreId.dsp1 }
  (σ.setPram σ.turn σ.me.pc.toNat w1).setPram σ.turn (σ.me.pc.toNat + 1) w2

end Sys2Proof.Machine
end

