-- ==== Sys2Proof/Machine/Dispatch.lean ====
section
/-! DEFINITION. The meaning of every instruction: one arm per constructor, one direct call each. -/

namespace Sys2Proof.Machine

def exec (i : Instr) (s : State) : Host.Outcome State Fault Refusal :=
  match i with
  | .nop => Sys2Proof.Machine.execNop s
  | .nopHi => Sys2Proof.Machine.execNopHi s
  | .clrd rd => Sys2Proof.Machine.execClrd rd s
  | .asx2 rt rs rd => Sys2Proof.Machine.execAsx2 rt rs rd s
  | .addd rt rs rd => Sys2Proof.Machine.execAddd rt rs rd s
  | .asxs rt rs rd => Sys2Proof.Machine.execAsxs rt rs rd s
  | .subd rt rs rd => Sys2Proof.Machine.execSubd rt rs rd s
  | .asxs2 rt rs rd => Sys2Proof.Machine.execAsxs2 rt rs rd s
  | .adcd rt rs rd => Sys2Proof.Machine.execAdcd rt rs rd s
  | .a4 rt rs rd => Sys2Proof.Machine.execA4 rt rs rd s
  | .sbcd rt rs rd => Sys2Proof.Machine.execSbcd rt rs rd s
  | .a8 rt rs rd => Sys2Proof.Machine.execA8 rt rs rd s
  | .addld rt rs rd => Sys2Proof.Machine.execAddld rt rs rd s
  | .s4 rt rs rd => Sys2Proof.Machine.execS4 rt rs rd s
  | .trs16 rs rd => Sys2Proof.Machine.execTrs16 rs rd s
  | .s8 rt rs rd => Sys2Proof.Machine.execS8 rt rs rd s
  | .fasx rt rs rd => Sys2Proof.Machine.execFasx rt rs rd s
  | .ra4 rt rs rd => Sys2Proof.Machine.execRa4 rt rs rd s
  | .fasxs rt rs rd => Sys2Proof.Machine.execFasxs rt rs rd s
  | .ra8 rt rs rd => Sys2Proof.Machine.execRa8 rt rs rd s
  | .fax rt rs rd => Sys2Proof.Machine.execFax rt rs rd s
  | .sga4 rt rs rd => Sys2Proof.Machine.execSga4 rt rs rd s
  | .fsx rt rs rd => Sys2Proof.Machine.execFsx rt rs rd s
  | .sga8 rt rs rd => Sys2Proof.Machine.execSga8 rt rs rd s
  | .trs17 rs rd => Sys2Proof.Machine.execTrs17 rs rd s
  | .a8s rt rs rd => Sys2Proof.Machine.execA8s rt rs rd s
  | .trs18 rt rs rd => Sys2Proof.Machine.execTrs18 rt rs rd s
  | .ms2 rt rs rd => Sys2Proof.Machine.execMs2 rt rs rd s
  | .trs19 rs rd => Sys2Proof.Machine.execTrs19 rs rd s
  | .ms4 rt rs rd => Sys2Proof.Machine.execMs4 rt rs rd s
  | .fsa rt rs rd => Sys2Proof.Machine.execFsa rt rs rd s
  | .ms8 rt rs rd => Sys2Proof.Machine.execMs8 rt rs rd s
  | .trs0 rs rd => Sys2Proof.Machine.execTrs0 rs rd s
  | .s8s rt rs rd => Sys2Proof.Machine.execS8s rt rs rd s
  | .trs1 rt rs rd => Sys2Proof.Machine.execTrs1 rt rs rd s
  | .negde rs rd => Sys2Proof.Machine.execNegde rs rd s
  | .trs2 rt rs rd => Sys2Proof.Machine.execTrs2 rt rs rd s
  | .allft41 rs rd => Sys2Proof.Machine.execAllft41 rs rd s
  | .trs3 rt rs rd => Sys2Proof.Machine.execTrs3 rt rs rd s
  | .allft22 rs rd => Sys2Proof.Machine.execAllft22 rs rd s
  | .trs4 rs rd => Sys2Proof.Machine.execTrs4 rs rd s
  | .all4 rt rs rd => Sys2Proof.Machine.execAll4 rt rs rd s
  | .trs5 rs rd => Sys2Proof.Machine.execTrs5 rs rd s
  | .all2 rt rs rd => Sys2Proof.Machine.execAll2 rt rs rd s
  | .trs6 rs rd => Sys2Proof.Machine.execTrs6 rs rd s
  | .al4 rt rs rd => Sys2Proof.Machine.execAl4 rt rs rd s
  | .trs7 rs rd => Sys2Proof.Machine.execTrs7 rs rd s
  | .al2 rt rs rd => Sys2Proof.Machine.execAl2 rt rs rd s
  | .trs8 rs rd => Sys2Proof.Machine.execTrs8 rs rd s
  | .norvd rs rd => Sys2Proof.Machine.execNorvd rs rd s
  | .trs9 rs rd => Sys2Proof.Machine.execTrs9 rs rd s
  | .a81 rs rd => Sys2Proof.Machine.execA81 rs rd s
  | .trs10 rs rd => Sys2Proof.Machine.execTrs10 rs rd s
  | .a42 rs rd => Sys2Proof.Machine.execA42 rs rd s
  | .trs11 rt rs rd => Sys2Proof.Machine.execTrs11 rt rs rd s
  | .a24 rs rd => Sys2Proof.Machine.execA24 rs rd s
  | .trs12 rt rs rd => Sys2Proof.Machine.execTrs12 rt rs rd s
  | .bf4 rt rs rd => Sys2Proof.Machine.execBf4 rt rs rd s
  | .trs13 rt rs rd => Sys2Proof.Machine.execTrs13 rt rs rd s
  | .bif4 rt rs rd => Sys2Proof.Machine.execBif4 rt rs rd s
  | .trs14 rt rs rd => Sys2Proof.Machine.execTrs14 rt rs rd s
  | .axj4 rt rs rd => Sys2Proof.Machine.execAxj4 rt rs rd s
  | .trs15 rs rd => Sys2Proof.Machine.execTrs15 rs rd s
  | .sxj4 rt rs rd => Sys2Proof.Machine.execSxj4 rt rs rd s
  | .cmpn4 rt rs rd => Sys2Proof.Machine.execCmpn4 rt rs rd s
  | .cmpn8 rt rs rd => Sys2Proof.Machine.execCmpn8 rt rs rd s
  | .andd rt rs rd => Sys2Proof.Machine.execAndd rt rs rd s
  | .cmpz4 rt rs rd => Sys2Proof.Machine.execCmpz4 rt rs rd s
  | .andcd rt rs rd => Sys2Proof.Machine.execAndcd rt rs rd s
  | .cmpz8 rt rs rd => Sys2Proof.Machine.execCmpz8 rt rs rd s
  | .andid rt rs rd => Sys2Proof.Machine.execAndid rt rs rd s
  | .cmpnl2 rt rs rd => Sys2Proof.Machine.execCmpnl2 rt rs rd s
  | .insd rt rs rd => Sys2Proof.Machine.execInsd rt rs rd s
  | .cmpnl4 rt rs rd => Sys2Proof.Machine.execCmpnl4 rt rs rd s
  | .ord rt rs rd => Sys2Proof.Machine.execOrd rt rs rd s
  | .cmpzl2 rt rs rd => Sys2Proof.Machine.execCmpzl2 rt rs rd s
  | .orcd rt rs rd => Sys2Proof.Machine.execOrcd rt rs rd s
  | .cmpzl4 rt rs rd => Sys2Proof.Machine.execCmpzl4 rt rs rd s
  | .orid rt rs rd => Sys2Proof.Machine.execOrid rt rs rd s
  | .max4 rt rs rd => Sys2Proof.Machine.execMax4 rt rs rd s
  | .eord rt rs rd => Sys2Proof.Machine.execEord rt rs rd s
  | .max8 rt rs rd => Sys2Proof.Machine.execMax8 rt rs rd s
  | .notd rs rd => Sys2Proof.Machine.execNotd rs rd s
  | .min4 rt rs rd => Sys2Proof.Machine.execMin4 rt rs rd s
  | .trd rs rd => Sys2Proof.Machine.execTrd rs rd s
  | .min8 rt rs rd => Sys2Proof.Machine.execMin8 rt rs rd s
  | .maxl2 rt rs rd => Sys2Proof.Machine.execMaxl2 rt rs rd s
  | .pdnxl rs rd => Sys2Proof.Machine.execPdnxl rs rd s
  | .maxl4 rt rs rd => Sys2Proof.Machine.execMaxl4 rt rs rd s
  | .pdnde rs rd => Sys2Proof.Machine.execPdnde rs rd s
  | .minl2 rt rs rd => Sys2Proof.Machine.execMinl2 rt rs rd s
  | .pdnd rs rd => Sys2Proof.Machine.execPdnd rs rd s
  | .minl4 rt rs rd => Sys2Proof.Machine.execMinl4 rt rs rd s
  | .nopB => Sys2Proof.Machine.execNopB s
  | .nopBHi => Sys2Proof.Machine.execNopBHi s
  | .nopBMid => Sys2Proof.Machine.execNopBMid s
  | .mfx rt rs rd => Sys2Proof.Machine.execMfx rt rs rd s
  | .fm2 rt rs rd => Sys2Proof.Machine.execFm2 rt rs rd s
  | .mfxc rt rs rd => Sys2Proof.Machine.execMfxc rt rs rd s
  | .fms2 rt rs rd => Sys2Proof.Machine.execFms2 rt rs rd s
  | .mfx2 rt rs rd => Sys2Proof.Machine.execMfx2 rt rs rd s
  | .mfxc2 rt rs rd => Sys2Proof.Machine.execMfxc2 rt rs rd s
  | .trs16B rs rd => Sys2Proof.Machine.execTrs16B rs rd s
  | .mf4 rt rs rd => Sys2Proof.Machine.execMf4 rt rs rd s
  | .mf8 rt rs rd => Sys2Proof.Machine.execMf8 rt rs rd s
  | .trs17B rs rd => Sys2Proof.Machine.execTrs17B rs rd s
  | .ml2 rt rs rd => Sys2Proof.Machine.execMl2 rt rs rd s
  | .trs18B rt rs rd => Sys2Proof.Machine.execTrs18B rt rs rd s
  | .uml rt rs rd => Sys2Proof.Machine.execUml rt rs rd s
  | .trs19B rs rd => Sys2Proof.Machine.execTrs19B rs rd s
  | .uml2 rt rs rd => Sys2Proof.Machine.execUml2 rt rs rd s
  | .mfa81 rt rs rd => Sys2Proof.Machine.execMfa81 rt rs rd s
  | .trs0B rs rd => Sys2Proof.Machine.execTrs0B rs rd s
  | .mfa41 rt rs rd => Sys2Proof.Machine.execMfa41 rt rs rd s
  | .trs1B rt rs rd => Sys2Proof.Machine.execTrs1B rt rs rd s
  | .mfa42 rt rs rd => Sys2Proof.Machine.execMfa42 rt rs rd s
  | .trs2B rt rs rd => Sys2Proof.Machine.execTrs2B rt rs rd s
  | .mfa21 rt rs rd => Sys2Proof.Machine.execMfa21 rt rs rd s
  | .trs3B rt rs rd => Sys2Proof.Machine.execTrs3B rt rs rd s
  | .mfa22 rt rs rd => Sys2Proof.Machine.execMfa22 rt rs rd s
  | .trs4B rs rd => Sys2Proof.Machine.execTrs4B rs rd s
  | .mfa24 rt rs rd => Sys2Proof.Machine.execMfa24 rt rs rd s
  | .trs5B rs rd => Sys2Proof.Machine.execTrs5B rs rd s
  | .m4 rt rs rd => Sys2Proof.Machine.execM4 rt rs rd s
  | .trs6B rs rd => Sys2Proof.Machine.execTrs6B rs rd s
  | .m2 rt rs rd => Sys2Proof.Machine.execM2 rt rs rd s
  | .trs7B rs rd => Sys2Proof.Machine.execTrs7B rs rd s
  | .trs8B rs rd => Sys2Proof.Machine.execTrs8B rs rd s
  | .trs9B rs rd => Sys2Proof.Machine.execTrs9B rs rd s
  | .lsldi imm rs rd => Sys2Proof.Machine.execLsldi imm rs rd s
  | .trs10B rs rd => Sys2Proof.Machine.execTrs10B rs rd s
  | .lslxl rt rs rd => Sys2Proof.Machine.execLslxl rt rs rd s
  | .trs11B rt rs rd => Sys2Proof.Machine.execTrs11B rt rs rd s
  | .trs12B rt rs rd => Sys2Proof.Machine.execTrs12B rt rs rd s
  | .asldi imm rs rd => Sys2Proof.Machine.execAsldi imm rs rd s
  | .trs13B rt rs rd => Sys2Proof.Machine.execTrs13B rt rs rd s
  | .aslxl rt rs rd => Sys2Proof.Machine.execAslxl rt rs rd s
  | .trs14B rt rs rd => Sys2Proof.Machine.execTrs14B rt rs rd s
  | .trdB rs rd => Sys2Proof.Machine.execTrdB rs rd s
  | .trs15B rs rd => Sys2Proof.Machine.execTrs15B rs rd s
  | .lsld rt rs rd => Sys2Proof.Machine.execLsld rt rs rd s
  | .macx rt rs n => Sys2Proof.Machine.execMacx rt rs n s
  | .rold rs rd => Sys2Proof.Machine.execRold rs rd s
  | .macx2 rt rs n => Sys2Proof.Machine.execMacx2 rt rs n s
  | .macxc rt rs n => Sys2Proof.Machine.execMacxc rt rs n s
  | .asld rt rs rd => Sys2Proof.Machine.execAsld rt rs rd s
  | .macxc2 rt rs n => Sys2Proof.Machine.execMacxc2 rt rs n s
  | .asrde rt rs rd => Sys2Proof.Machine.execAsrde rt rs rd s
  | .mac41 rt rs n => Sys2Proof.Machine.execMac41 rt rs n s
  | .mac81 rt rs n => Sys2Proof.Machine.execMac81 rt rs n s
  | .btstdi imm rs => Sys2Proof.Machine.execBtstdi imm rs s
  | .macxb4 rt rs n => Sys2Proof.Machine.execMacxb4 rt rs n s
  | .lsrdi imm rs rd => Sys2Proof.Machine.execLsrdi imm rs rd s
  | .macl2 rt rs n => Sys2Proof.Machine.execMacl2 rt rs n s
  | .lsrxl rt rs rd => Sys2Proof.Machine.execLsrxl rt rs rd s
  | .clrac rt => Sys2Proof.Machine.execClrac rt s
  | .ldac rt rd => Sys2Proof.Machine.execLdac rt rd s
  | .asrdi imm rs rd => Sys2Proof.Machine.execAsrdi imm rs rd s
  | .ldacd rt rd => Sys2Proof.Machine.execLdacd rt rd s
  | .asrxl rt rs rd => Sys2Proof.Machine.execAsrxl rt rs rd s
  | .stac rt rs => Sys2Proof.Machine.execStac rt rs s
  | .stacd rt rs => Sys2Proof.Machine.execStacd rt rs s
  | .smbd rs rd => Sys2Proof.Machine.execSmbd rs rd s
  | .lsrd rt rs rd => Sys2Proof.Machine.execLsrd rt rs rd s
  | .mac42 rt rs n => Sys2Proof.Machine.execMac42 rt rs n s
  | .rord rs rd => Sys2Proof.Machine.execRord rs rd s
  | .mac24 rt rs n => Sys2Proof.Machine.execMac24 rt rs n s
  | .btstd rt rs => Sys2Proof.Machine.execBtstd rt rs s
  | .mac22 rt rs n => Sys2Proof.Machine.execMac22 rt rs n s
  | .mac21 rt rs n => Sys2Proof.Machine.execMac21 rt rs n s
  | .asrd rt rs rd => Sys2Proof.Machine.execAsrd rt rs rd s
  | .mac18 rt rs => Sys2Proof.Machine.execMac18 rt rs s
  | .mac14 rt rs n => Sys2Proof.Machine.execMac14 rt rs n s
  | .mac12 rt rs n => Sys2Proof.Machine.execMac12 rt rs n s
  | .mac11 rt rs n => Sys2Proof.Machine.execMac11 rt rs n s
  | .acsg8 rt rs => Sys2Proof.Machine.execAcsg8 rt rs s
  | .acsg4 rt rs n => Sys2Proof.Machine.execAcsg4 rt rs n s
  | .acsg2 rt rs n => Sys2Proof.Machine.execAcsg2 rt rs n s
  | .acsg1 rt rs n => Sys2Proof.Machine.execAcsg1 rt rs n s
  | .move9aX r u mode a de => Sys2Proof.Machine.execMove9aX r u mode a de s
  | .move9aY aT u => Sys2Proof.Machine.execMove9aY aT u s
  | .move9bR rs rd l => Sys2Proof.Machine.execMove9bR rs rd l s
  | .move9bY aT u => Sys2Proof.Machine.execMove9bY aT u s
  | .move9dRC rr rc l de => Sys2Proof.Machine.execMove9dRC rr rc l de s
  | .rti cc => Sys2Proof.Machine.execRti cc s

end Sys2Proof.Machine
end

