-- ==== Sys2Proof/Machine/Step.lean ====
section
/-! DEFINITION. One step of the cluster, and where it fetches its next instruction. Both only call definitions of
Machine/Bus.lean and Machine/Execute.lean. -/

namespace Sys2Proof.Machine

/-- One step: the next scheduled action (60_exceptions.md R484, R497). -/
def step (σ : State) : Host.Outcome State Fault Refusal := stepOnce σ

/-- The instruction whose bits are w (W1 = bits 31..0, W2 = bits 63..32) stored where the next step fetches: PRAM at the
pc of the core whose turn it is, that core running. -/
def State.withFetchWord (s : State) (nbits w : Nat) : State :=
  let v := BitVec.ofNat 64 (w % 2 ^ nbits)
  placeWords s (v.extractLsb' 0 32) (v.extractLsb' 32 32)

end Sys2Proof.Machine
end

