-- ==== Sys2Proof/Safety.lean ====
section
/-! DEFINITION. The terms in which statements about the machine are made: what an instruction leaves unchanged
(`Frame`), the shapes of a completed instruction (`YieldsH` and the like), and the invariant of every step (`State.Inv`:
canonical memory, reserved bits that read 0, WAIT as the sign of a held access, bounded stacks, legal clocks). -/

namespace Sys2Proof.Machine

/-! ### Frames -/

/-- The 16-bit unit u of the register file: unit 8k + j is bits 16j+15..16j of ROW[k]. -/
def Core.unit (k : Core) (u : BitVec 7) : Half :=
  (k.row (u.extractLsb' 3 4)).extractLsb' (16 * (u.extractLsb' 0 3).toNat) 16

/-- Everything of the state but the register file, the accumulators and CCR of the core whose turn it is. -/
def SameElsewhere (σ τ : State) : Prop :=
  τ = σ.onMe fun k => { k with rows := τ.me.rows, acc := τ.me.acc, ccr := τ.me.ccr }

/-- What a compute operation leaves unchanged: register-file units outside `units`, accumulators outside `accs`, CCR bits
outside `flags`, every byte of memory, and everything else of the state (pointers, control registers, the pc, the
exception state, the other core, XBUF, the cluster registers). -/
def Frame (σ τ : State) (units : BitVec 128) (accs : BitVec 16) (flags : Half) : Prop :=
  SameElsewhere σ τ ∧
  (∀ u : BitVec 7, units.getLsbD u.toNat = false → τ.me.unit u = σ.me.unit u) ∧
  (∀ n : BitVec 4, accs.getLsbD n.toNat = false → τ.me.acL n = σ.me.acL n) ∧
  (∀ j : Nat, flags.getLsbD j = false → τ.me.ccr.getLsbD j = σ.me.ccr.getLsbD j) ∧
  (∀ a : Nat, readByte τ.mem a = readByte σ.mem a)

/-- The instruction completes, its 16-bit destination then holds a value with P, and nothing else changes. -/
def YieldsH (x : Instr) (σ : State) (rd : Reg) (P : Half → Prop) : Prop :=
  ∃ τ, exec x σ = .next τ ∧ P (τ.me.h rd) ∧ Frame σ τ (unitMask rd .w16) 0 0
/-- The same with a 32-bit destination. -/
def YieldsL (x : Instr) (σ : State) (rd : Reg) (P : Word → Prop) : Prop :=
  ∃ τ, exec x σ = .next τ ∧ P (τ.me.l rd) ∧ Frame σ τ (unitMask rd .w32) 0 0
/-- The same with a 64-bit destination. -/
def YieldsD (x : Instr) (σ : State) (rd : Reg) (P : Dbl → Prop) : Prop :=
  ∃ τ, exec x σ = .next τ ∧ P (τ.me.d rd) ∧ Frame σ τ (unitMask rd .w64) 0 0
/-- The same with a 128-bit destination. -/
def YieldsQ (x : Instr) (σ : State) (rd : Reg) (P : Quad → Prop) : Prop :=
  ∃ τ, exec x σ = .next τ ∧ P (τ.me.q rd) ∧ Frame σ τ (unitMask rd .w128) 0 0

/-- The bits of ACC64[n] among the accumulators. -/
def accMask (n : BitVec 3) : BitVec 16 := BitVec.ofNat 16 (3 * 4 ^ n.toNat)

/-- The instruction completes, adds `x` to ACC64[n] modulo 2^64 for each (n, x) of the list and changes nothing else. -/
def Accumulates (i : Instr) (σ : State) (adds : List (BitVec 3 × Int)) : Prop :=
  ∃ τ, exec i σ = .next τ ∧
    (∀ p ∈ adds, τ.me.acc64 p.1 = BitVec.ofInt 64 ((σ.me.acc64 p.1).toInt + p.2)) ∧
    Frame σ τ 0 (adds.foldr (fun p m => accMask p.1 ||| m) 0) 0

/-- Column "slot" and code of an operation (30_encoding.md R164, R165). -/
def Encoded (x : Instr) (p : Place) (code : BitVec 7) : Prop := x.place = p ∧ x.code = code

/-- The scaling shift of an instruction instance (00_scope.md R17). -/
def shiftHere (σ : State) : Nat := if scaledHere σ then σ.me.scale.toNat else 0

/-- An accumulator number field read as the number of a 64-bit accumulator. -/
def accNumber (n : BitVec 5) : BitVec 3 := n.extractLsb' 0 3

/-- The refusal that a part answers with when it breaks a rule of the encoding. -/
def refusalOf : IllFormed → Refusal
  | .oddQuad => .oddQuad
  | .accumulator => .accumulatorNumber
  | .widthBit => .widthBit
  | .accumulatorView => .accumulatorView
  | .stackRegister => .stackRegister
  | .slot => .reservedCode

/-- n is the number that the tie rule picks among the parts below `count` that equal m (47_compare_minmax.md R380). -/
def TiePick (tie : Tie) (s : Nat → Int) (count : Nat) (m : Int) (n : Nat) : Prop :=
  n < count ∧ s n = m ∧ ∀ i < count, s i = m → match tie with | .lowest => n ≤ i | .highest => i ≤ n

/-- What a pointer gains by an action on m words, whatever the action but `unknown` (40_moves.md R183, R187). -/
def gain (act : Action) (m : Nat) (offset : Half) : Half :=
  match act with
  | .noUpdate => 0
  | .postInc => BitVec.ofNat 16 m
  | .postDec => -BitVec.ofNat 16 m
  | .postAddOffset => offset
  | .unknown => 0

/-- The spec lets an access of m words be made at pointer p: bits 31..16 zero (10_state.md R35), all words in one page
(20_memory.md R103), the segment's clock on (R121). -/
def Reaches (σ : State) (p : Word) (m : Nat) : Prop :=
  p.extractLsb' 16 16 = 0 ∧ p.toNat % 0x2000 + m ≤ 0x2000 ∧
    σ.clk (if p.getLsbD 15 then .dsp1 else .dsp0) = true

/-- The bytes of m XYRAM words from w, as CPU byte addresses (20_memory.md R92, R100). -/
def bytesOf (w : Half) (m a : Nat) : Prop :=
  ∃ j < m, xyAddr (w + BitVec.ofNat 16 j) ≤ a ∧ a < xyAddr (w + BitVec.ofNat 16 j) + 4

/-- The values a read of XYRAM word w by the core whose turn it is may give: the memory's, or one of the core's own
pending far writes to the word (20_memory.md R109). -/
def readable (σ : State) (w : Half) : List Word := σ.xy w :: σ.pendingAt w

/-! ### The invariant -/

/-- What always holds of core c. -/
def Core.Inv (cfg : Config) (c : CoreId) (k : Core) : Prop :=
  within dcsrDefined k.dcsr = true ∧ within irqrDefined k.irqr = true ∧ within arbrDefined k.arbr = true ∧
  within dbDcsrDefined k.dbDcsr = true ∧ k.wait = k.held.isSome ∧ k.pcstack.length ≤ cfg.stackDepth ∧
  k.hist.length ≤ 3 ∧ ∀ e ∈ k.farq, isFar c e.addr = true

/-- What every step keeps: the memory in its canonical form; the reserved bits of DCSR, IRQR, ARBR, dbDCSR and CSR_DSP
0 (10_state.md R69); DCSR.WAIT set exactly while an XBUF access is held (R42); the PC stack within its depth (R220);
the hazard history at most three long (R535); pending far writes far (R109); the clocks never (0,1) (R492). -/
def State.Inv (σ : State) : Prop :=
  Memory.wf σ.mem = true ∧ σ.core0.Inv σ.cfg .dsp0 ∧ σ.core1.Inv σ.cfg .dsp1 ∧ within 2#32 σ.csr = true ∧
  ¬(σ.clk0 = false ∧ σ.clk1 = true)

end Sys2Proof.Machine
end

