-- ==== Sys2Proof/Certificates/Slice0/Obligations.lean ====
section
/-! DEFINITION. The statements for the provers. `σ` is the state before, `τ` the state after. A statement about a
compute operation says its result, that it completes, and what it leaves alone, in one of the shapes `YieldsH/L/D/Q`
and `Accumulates` of Sys2Proof/Safety.lean, and its slot and code (`Encoded`). T, S, D are the operand values before
the instruction. -/

open Sys2Proof Sys2Proof.Machine

/-! ### 64-bit ALU -/

/-- The logical operations, bit by bit (48_alu64.md R406..R413). -/
def Obligations.Logic64 : Prop :=
  ∀ (σ : State) (rt rs rd : Reg),
    let t (n : Nat) : Bool := (σ.me.d rt).getLsbD n
    let s (n : Nat) : Bool := (σ.me.d rs).getLsbD n
    (Encoded (.andd rt rs rd) .op1 0b1010001 ∧
      YieldsD (.andd rt rs rd) σ rd fun v => ∀ n < 64, v.getLsbD n = (t n && s n)) ∧
    (Encoded (.andcd rt rs rd) .op1 0b1010010 ∧
      YieldsD (.andcd rt rs rd) σ rd fun v => ∀ n < 64, v.getLsbD n = (!t n && s n)) ∧
    (Encoded (.andid rt rs rd) .op1 0b1010011 ∧
      YieldsD (.andid rt rs rd) σ rd fun v => ∀ n < 64, v.getLsbD n = !(t n && s n)) ∧
    (Encoded (.ord rt rs rd) .op1 0b1010101 ∧
      YieldsD (.ord rt rs rd) σ rd fun v => ∀ n < 64, v.getLsbD n = (t n || s n)) ∧
    (Encoded (.orcd rt rs rd) .op1 0b1010110 ∧
      YieldsD (.orcd rt rs rd) σ rd fun v => ∀ n < 64, v.getLsbD n = (!t n || s n)) ∧
    (Encoded (.orid rt rs rd) .op1 0b1010111 ∧
      YieldsD (.orid rt rs rd) σ rd fun v => ∀ n < 64, v.getLsbD n = !(t n || s n)) ∧
    (Encoded (.eord rt rs rd) .op1 0b1011000 ∧
      YieldsD (.eord rt rs rd) σ rd fun v => ∀ n < 64, v.getLsbD n = (t n ^^ s n)) ∧
    (Encoded (.notd rs rd) .op1 0b1011001 ∧
      YieldsD (.notd rs rd) σ rd fun v => ∀ n < 64, v.getLsbD n = !s n)

/-- CLRD, ADDD, SUBD, ADCD, SBCD, ADDLD modulo 2^64, and TRD in both slots (R417..R422, R425). That the results are
taken modulo 2^64 is the spec's decision D13 (R405 (d)) and the model's log entry 26. -/
def Obligations.Arith64 : Prop :=
  ∀ (σ : State) (rt rs rd : Reg),
    let T := σ.me.d rt
    let S := σ.me.d rs
    let c : Dbl := if σ.flagC then 1 else 0
    (Encoded (.clrd rd) .op1 0b0000001 ∧ YieldsD (.clrd rd) σ rd (· = 0)) ∧
    (Encoded (.addd rt rs rd) .op1 0b0000010 ∧ YieldsD (.addd rt rs rd) σ rd (· = S + T)) ∧
    (Encoded (.subd rt rs rd) .op1 0b0000011 ∧ YieldsD (.subd rt rs rd) σ rd (· = S - T)) ∧
    (Encoded (.adcd rt rs rd) .op1 0b0000100 ∧ YieldsD (.adcd rt rs rd) σ rd (· = S + T + c)) ∧
    (Encoded (.sbcd rt rs rd) .op1 0b0000101 ∧ YieldsD (.sbcd rt rs rd) σ rd (· = S - T - (1 - c))) ∧
    (Encoded (.addld rt rs rd) .op1 0b0000110 ∧
      YieldsD (.addld rt rs rd) σ rd (· = S + (σ.me.l rt).signExtend 64)) ∧
    (Encoded (.trd rs rd) .op1 0b1011010 ∧ YieldsD (.trd rs rd) σ rd (· = S)) ∧
    (Encoded (.trdB rs rd) .op2 0b1100110 ∧ YieldsD (.trdB rs rd) σ rd (· = S))

/-- INSD merges T and D by the mask S, with the polarity that the configuration holds (the spec's decision D22, log
entry 12). PDND, PDNXL, PDNDE write a function of S that the source leaves open (decision D23, log entry 11), with
pdnde(0) = 0; every register but D, PDNR among them, keeps its value. NORVD: a copy with V = 0; with V = 1 the 65-bit
number {not S[63], S} halved, a tie to the even result. NEGDE: the negation with V = 0 (decision D45), or 0.5 with V = 1
when the negation overflows (R414, R426..R428, R430, R432). -/
def Obligations.DenormalsAndNormalization : Prop :=
  ∀ (σ : State) (rt rs rd : Reg),
    let S := σ.me.d rs
    (Encoded (.insd rt rs rd) .op1 0b1010100 ∧
      YieldsD (.insd rt rs rd) σ rd fun v => ∀ n < 64, v.getLsbD n =
        if S.getLsbD n = σ.cfg.insdPolarity then (σ.me.d rt).getLsbD n else (σ.me.d rd).getLsbD n) ∧
    (Encoded (.pdnd rs rd) .op1 0b1011111 ∧ YieldsH (.pdnd rs rd) σ rd (· = Config.pdn64 S)) ∧
    (Encoded (.pdnxl rs rd) .op1 0b1011101 ∧ YieldsH (.pdnxl rs rd) σ rd (· = Config.pdnxl S)) ∧
    (Encoded (.pdnde rs rd) .op1 0b1011110 ∧
      YieldsL (.pdnde rs rd) σ rd fun v => (S = 0 → v = 0) ∧ (S ≠ 0 → v = Config.pdndeNonzero S)) ∧
    (Encoded (.norvd rs rd) .op1 0b0111000 ∧
      YieldsD (.norvd rs rd) σ rd fun v =>
        (σ.flagV = false → v = S) ∧
        (σ.flagV = true →
          let wide : BitVec 65 := BitVec.ofBool (!S.getLsbD 63) ++ S
          v = BitVec.ofInt 64 (rnd wide.toInt 1))) ∧
    (Encoded (.negde rs rd) .op1 0b0110001 ∧
      ∃ τ, exec (.negde rs rd) σ = .next τ ∧
        (S ≠ 0x8000000000000000 → (τ.me.d rd).toInt = -S.toInt ∧ τ.flagV = false) ∧
        (S = 0x8000000000000000 → τ.me.d rd = 0x4000000000000000 ∧ τ.flagV = true) ∧
        Frame σ τ (unitMask rd .w64) 0 (BitVec.twoPow 16 σ.cfg.ccrV.toNat))

/-! ### Shifter -/

/-- The 64-bit shifts by a 5-bit immediate (45_shifter64.md R316, R318, R320, R322). -/
def Obligations.ImmediateShifts : Prop :=
  ∀ (σ : State) (imm : BitVec 5) (rs rd : Reg),
    let S := σ.me.d rs
    (Encoded (.asrdi imm rs rd) .op2 0b1110100 ∧
      YieldsD (.asrdi imm rs rd) σ rd (· = S.sshiftRight imm.toNat)) ∧
    (Encoded (.asldi imm rs rd) .op2 0b1100100 ∧
      YieldsD (.asldi imm rs rd) σ rd fun v => v.toNat = S.toNat * 2 ^ imm.toNat % 2 ^ 64) ∧
    (Encoded (.lsrdi imm rs rd) .op2 0b1110001 ∧
      YieldsD (.lsrdi imm rs rd) σ rd fun v => v.toNat = S.toNat / 2 ^ imm.toNat) ∧
    (Encoded (.lsldi imm rs rd) .op2 0b1100001 ∧
      YieldsD (.lsldi imm rs rd) σ rd fun v => v.toNat = S.toNat * 2 ^ imm.toNat % 2 ^ 64)

/-- The shifts by a 16-bit register: of 64 bits by 0..63, of the two 32-bit components by 0..31 for each; a larger
amount is refused (the spec's decision D20, log entry 25; R315, R317, R319, R321, R323, R326..R329). -/
def Obligations.RegisterShifts : Prop :=
  ∀ (σ : State) (rt rs rd : Reg),
    let S := σ.me.d rs
    let a := (σ.me.h rt).toNat
    let a1 := (hp (σ.me.l rt) 1).toNat
    let a0 := (hp (σ.me.l rt) 0).toNat
    Encoded (.asrd rt rs rd) .op2 0b1111100 ∧ Encoded (.asld rt rs rd) .op2 0b1101100 ∧
    Encoded (.lsrd rt rs rd) .op2 0b1111000 ∧ Encoded (.lsld rt rs rd) .op2 0b1101000 ∧
    Encoded (.asrxl rt rs rd) .op2 0b1110101 ∧ Encoded (.aslxl rt rs rd) .op2 0b1100101 ∧
    Encoded (.lsrxl rt rs rd) .op2 0b1110010 ∧ Encoded (.lslxl rt rs rd) .op2 0b1100010 ∧
    (a ≤ 63 →
      YieldsD (.asrd rt rs rd) σ rd (· = S.sshiftRight a) ∧ YieldsD (.asld rt rs rd) σ rd (· = S <<< a) ∧
      YieldsD (.lsrd rt rs rd) σ rd (· = S >>> a) ∧ YieldsD (.lsld rt rs rd) σ rd (· = S <<< a)) ∧
    (63 < a →
      exec (.asrd rt rs rd) σ = .refused .shiftAmount ∧ exec (.asld rt rs rd) σ = .refused .shiftAmount ∧
      exec (.lsrd rt rs rd) σ = .refused .shiftAmount ∧ exec (.lsld rt rs rd) σ = .refused .shiftAmount) ∧
    (a ≤ 31 →
      YieldsD (.asrxl rt rs rd) σ rd
        (fun v => wp v 1 = (wp S 1).sshiftRight a ∧ wp v 0 = (wp S 0).sshiftRight a) ∧
      YieldsD (.aslxl rt rs rd) σ rd (fun v => wp v 1 = wp S 1 <<< a ∧ wp v 0 = wp S 0 <<< a)) ∧
    (31 < a →
      exec (.asrxl rt rs rd) σ = .refused .shiftAmount ∧ exec (.aslxl rt rs rd) σ = .refused .shiftAmount) ∧
    (a1 ≤ 31 ∧ a0 ≤ 31 →
      YieldsD (.lsrxl rt rs rd) σ rd (fun v => wp v 1 = wp S 1 >>> a1 ∧ wp v 0 = wp S 0 >>> a0) ∧
      YieldsD (.lslxl rt rs rd) σ rd (fun v => wp v 1 = wp S 1 <<< a1 ∧ wp v 0 = wp S 0 <<< a0)) ∧
    (31 < a1 ∨ 31 < a0 →
      exec (.lsrxl rt rs rd) σ = .refused .shiftAmount ∧ exec (.lslxl rt rs rd) σ = .refused .shiftAmount)

/-- RORD and ROLD rotate the 65 bits of C and S by one place; BTSTDi copies a bit of S into C; CCR changes in C alone;
SMBD counts the 1 bits of S (R324, R325, R330; 48_alu64.md R415). -/
def Obligations.RotationsAndBitTests : Prop :=
  ∀ (σ : State) (imm : BitVec 5) (rs rd : Reg),
    let S := σ.me.d rs
    let c : Half := BitVec.twoPow 16 σ.cfg.ccrC.toNat
    (Encoded (.rord rs rd) .op2 0b1111001 ∧
      ∃ τ, exec (.rord rs rd) σ = .next τ ∧ (τ.me.d rd).getLsbD 63 = σ.flagC ∧
        (∀ i < 63, (τ.me.d rd).getLsbD i = S.getLsbD (i + 1)) ∧ τ.flagC = S.getLsbD 0 ∧
        Frame σ τ (unitMask rd .w64) 0 c) ∧
    (Encoded (.rold rs rd) .op2 0b1101001 ∧
      ∃ τ, exec (.rold rs rd) σ = .next τ ∧ (τ.me.d rd).getLsbD 0 = σ.flagC ∧
        (∀ i < 63, (τ.me.d rd).getLsbD (i + 1) = S.getLsbD i) ∧ τ.flagC = S.getLsbD 63 ∧
        Frame σ τ (unitMask rd .w64) 0 c) ∧
    (Encoded (.btstdi imm rs) .op2 0b1110000 ∧
      ∃ τ, exec (.btstdi imm rs) σ = .next τ ∧ τ.flagC = S.getLsbD imm.toNat ∧ Frame σ τ 0 0 c) ∧
    (Encoded (.smbd rs rd) .op2 0b1110111 ∧
      YieldsH (.smbd rs rd) σ rd fun v => v.toNat = ((List.range 64).filter fun i => S.getLsbD i).length)

/-- BTSTD: bit number 0..63 from a register, a larger one refused (the spec's decision D20). ASRDE shifts the mantissa
that the service bit E selects, in place (decisions D25, D30): S with E = 0 (the S register is then the one written), D
with E = 1; amounts 0..63, a larger one is refused (log entries 25, 31; 48_alu64.md R416; R315, R332). -/
def Obligations.MantissaAndBitNumber : Prop :=
  ∀ (σ : State) (rt rs rd : Reg),
    let a := (σ.me.h rt).toNat
    Encoded (.btstd rt rs) .op2 0b1111010 ∧ Encoded (.asrde rt rs rd) .op2 0b1101101 ∧
    (a ≤ 63 → ∃ τ, exec (.btstd rt rs) σ = .next τ ∧ τ.flagC = (σ.me.d rs).getLsbD a ∧
      Frame σ τ 0 0 (BitVec.twoPow 16 σ.cfg.ccrC.toNat)) ∧
    (a ≤ 63 → σ.me.eBit = false → YieldsD (.asrde rt rs rd) σ rs (· = (σ.me.d rs).sshiftRight a)) ∧
    (a ≤ 63 → σ.me.eBit = true → YieldsD (.asrde rt rs rd) σ rd (· = (σ.me.d rd).sshiftRight a)) ∧
    (63 < a → exec (.btstd rt rs) σ = .refused .shiftAmount ∧ exec (.asrde rt rs rd) σ = .refused .shiftAmount)

/-! ### Floating point -/

/-- The seven float32 instructions: which part meets which, and in which order (42_fp.md R231..R237). -/
def Obligations.FloatingPoint : Prop :=
  ∀ (σ : State) (rt rs rd : Reg),
    let T := σ.me.d rt
    let S := σ.me.d rs
    (Encoded (.fm2 rt rs rd) .op2 0b0000010 ∧
      YieldsD (.fm2 rt rs rd) σ rd fun v =>
        wp v 1 = Config.fmul32 (wp T 1) (wp S 1) ∧ wp v 0 = Config.fmul32 (wp T 0) (wp S 0)) ∧
    (Encoded (.fms2 rt rs rd) .op2 0b0000011 ∧
      YieldsD (.fms2 rt rs rd) σ rd fun v =>
        wp v 1 = Config.fmul32 (wp T 1) (wp S 0) ∧ wp v 0 = Config.fmul32 (wp T 0) (wp S 1)) ∧
    Encoded (.fasx rt rs rd) .op1 0b0001000 ∧ Encoded (.fasxs rt rs rd) .op1 0b0001001 ∧
    (quadOk rd = true →
      YieldsQ (.fasx rt rs rd) σ rd (fun v =>
        wp v 3 = Config.fsub32 (wp S 1) (wp T 1) ∧ wp v 2 = Config.fsub32 (wp S 0) (wp T 0) ∧
        wp v 1 = Config.fadd32 (wp S 1) (wp T 1) ∧ wp v 0 = Config.fadd32 (wp S 0) (wp T 0)) ∧
      YieldsQ (.fasxs rt rs rd) σ rd (fun v =>
        wp v 3 = Config.fsub32 (wp S 1) (wp T 0) ∧ wp v 2 = Config.fadd32 (wp S 0) (wp T 1) ∧
        wp v 1 = Config.fadd32 (wp S 1) (wp T 0) ∧ wp v 0 = Config.fsub32 (wp S 0) (wp T 1))) ∧
    (Encoded (.fsa rt rs rd) .op1 0b0001111 ∧
      YieldsD (.fsa rt rs rd) σ rd fun v =>
        wp v 1 = Config.fsub32 (wp T 1) (wp T 0) ∧ wp v 0 = Config.fadd32 (wp S 1) (wp S 0)) ∧
    (Encoded (.fax rt rs rd) .op1 0b0001010 ∧
      YieldsD (.fax rt rs rd) σ rd fun v =>
        wp v 1 = Config.fadd32 (wp S 1) (wp T 1) ∧ wp v 0 = Config.fadd32 (wp S 0) (wp T 0)) ∧
    (Encoded (.fsx rt rs rd) .op1 0b0001011 ∧
      YieldsD (.fsx rt rs rd) σ rd fun v =>
        wp v 1 = Config.fsub32 (wp S 1) (wp T 1) ∧ wp v 0 = Config.fsub32 (wp S 0) (wp T 0))

/-! ### Multiplier -/

/-- The integer products ML2, UML, M4, M2 are exact: nothing is lost (43_mul_fixed.md R247, R249, R262, R263). -/
def Obligations.IntegerProducts : Prop :=
  ∀ (σ : State) (rt rs rd : Reg),
    let T := σ.me.d rt
    let S := σ.me.d rs
    Encoded (.ml2 rt rs rd) .op2 0b0100111 ∧ Encoded (.m4 rt rs rd) .op2 0b0110000 ∧
    (quadOk rd = true →
      YieldsQ (.ml2 rt rs rd) σ rd (fun v =>
        (v.extractLsb' 64 64).toInt = sw T 1 * sw S 1 ∧ (v.extractLsb' 0 64).toInt = sw T 0 * sw S 0) ∧
      YieldsQ (.m4 rt rs rd) σ rd (fun v => ∀ i < 4, sw v i = sh T i * sh S i)) ∧
    (Encoded (.uml rt rs rd) .op2 0b0101000 ∧
      YieldsD (.uml rt rs rd) σ rd fun v => v.toNat = (σ.me.l rt).toNat * (σ.me.l rs).toNat) ∧
    (Encoded (.m2 rt rs rd) .op2 0b0110001 ∧
      YieldsD (.m2 rt rs rd) σ rd fun v => ∀ i < 2, sw v i = sh (σ.me.l rt) i * sh (σ.me.l rs) i)

/-- UML2 multiplies signed parts of T by unsigned parts of S (the signedness of T is the spec's decision D35), exactly.
MF8, MF4: each Q15 product rounded to 16 bits by CFG.RND, narrowed by the saturation mode (alignment and rounding: the
spec's D12 and its reading of the fractional format, log entries 8, 23, 24; 43_mul_fixed.md R246, R248, R250, R251). -/
def Obligations.MixedAndFractionalProducts : Prop :=
  ∀ (σ : State) (rt rs rd : Reg),
    Encoded (.uml2 rt rs rd) .op2 0b0101001 ∧ Encoded (.mf8 rt rs rd) .op2 0b0100110 ∧
    (quadOk rd = true →
      YieldsQ (.uml2 rt rs rd) σ rd fun v =>
        (v.extractLsb' 64 64).toInt = sw (σ.me.d rt) 1 * (wp (σ.me.d rs) 1).toNat ∧
        (v.extractLsb' 0 64).toInt = sw (σ.me.d rt) 0 * (wp (σ.me.d rs) 0).toNat) ∧
    (quadOk rt = true ∧ quadOk rs = true ∧ quadOk rd = true →
      YieldsQ (.mf8 rt rs rd) σ rd fun v => ∀ i < 8,
        hp v i = narrow 16 σ.me.sat (roundBy σ.cfg.rounding (sh (σ.me.q rt) i * sh (σ.me.q rs) i) 15)) ∧
    (Encoded (.mf4 rt rs rd) .op2 0b0100101 ∧
      YieldsD (.mf4 rt rs rd) σ rd fun v => ∀ i < 4,
        hp v i = narrow 16 σ.me.sat (roundBy σ.cfg.rounding (sh (σ.me.d rt) i * sh (σ.me.d rs) i) 15))

/-- The fractional complex products, real part upper, rounded by CFG.RND; the result wraps in either mode (R252..R255).
It rests on choices of the spec and the model: log entries 8, 23, 24, 26. -/
def Obligations.FractionalComplex : Prop :=
  ∀ (σ : State) (rt rs rd : Reg),
    let T := σ.me.d rt
    let S := σ.me.d rs
    let t := σ.me.l rt
    let s := σ.me.l rs
    (Encoded (.mfx2 rt rs rd) .op2 0b0100011 ∧
      YieldsD (.mfx2 rt rs rd) σ rd fun v => ∀ k < 2,
        hp v (2 * k + 1) = BitVec.ofInt 16
          (roundBy σ.cfg.rounding (sh T (2 * k + 1) * sh S (2 * k + 1) - sh T (2 * k) * sh S (2 * k)) 15) ∧
        hp v (2 * k) = BitVec.ofInt 16
          (roundBy σ.cfg.rounding (sh T (2 * k + 1) * sh S (2 * k) + sh T (2 * k) * sh S (2 * k + 1)) 15)) ∧
    (Encoded (.mfxc2 rt rs rd) .op2 0b0100100 ∧
      YieldsD (.mfxc2 rt rs rd) σ rd fun v => ∀ k < 2,
        hp v (2 * k + 1) = BitVec.ofInt 16
          (roundBy σ.cfg.rounding (sh T (2 * k + 1) * sh S (2 * k + 1) + sh T (2 * k) * sh S (2 * k)) 15) ∧
        hp v (2 * k) = BitVec.ofInt 16
          (roundBy σ.cfg.rounding (sh T (2 * k) * sh S (2 * k + 1) - sh T (2 * k + 1) * sh S (2 * k)) 15)) ∧
    (Encoded (.mfx rt rs rd) .op2 0b0100001 ∧
      YieldsL (.mfx rt rs rd) σ rd fun v =>
        hp v 1 = BitVec.ofInt 16 (roundBy σ.cfg.rounding (sh t 1 * sh s 1 - sh t 0 * sh s 0) 15) ∧
        hp v 0 = BitVec.ofInt 16 (roundBy σ.cfg.rounding (sh t 1 * sh s 0 + sh t 0 * sh s 1) 15)) ∧
    (Encoded (.mfxc rt rs rd) .op2 0b0100010 ∧
      YieldsL (.mfxc rt rs rd) σ rd fun v =>
        hp v 1 = BitVec.ofInt 16 (roundBy σ.cfg.rounding (sh t 1 * sh s 1 + sh t 0 * sh s 0) 15) ∧
        hp v 0 = BitVec.ofInt 16 (roundBy σ.cfg.rounding (sh t 0 * sh s 1 - sh t 1 * sh s 0) 15))

/-- The sums of products rounded by CFG.RND, which wrap in either mode (R256..R261). It rests on choices of the spec and
the model: log entries 8, 23, 24, 26. -/
def Obligations.FractionalSums : Prop :=
  ∀ (σ : State) (rt rs rd : Reg),
    let quad (start count : Nat) : Half := BitVec.ofInt 16
      (roundBy σ.cfg.rounding (∑ i ∈ Finset.range count, sh (σ.me.q rt) (start + i) * sh (σ.me.q rs) (start + i)) 15)
    let dbl (start count : Nat) : Half := BitVec.ofInt 16
      (roundBy σ.cfg.rounding (∑ i ∈ Finset.range count, sh (σ.me.d rt) (start + i) * sh (σ.me.d rs) (start + i)) 15)
    let word : Half := BitVec.ofInt 16
      (roundBy σ.cfg.rounding (∑ i ∈ Finset.range 2, sh (σ.me.l rt) i * sh (σ.me.l rs) i) 15)
    Encoded (.mfa81 rt rs rd) .op2 0b0101010 ∧ Encoded (.mfa42 rt rs rd) .op2 0b0101100 ∧
    Encoded (.mfa24 rt rs rd) .op2 0b0101111 ∧
    (quadOk rt = true ∧ quadOk rs = true →
      YieldsH (.mfa81 rt rs rd) σ rd (· = quad 0 8) ∧
      YieldsL (.mfa42 rt rs rd) σ rd (fun v => hp v 1 = quad 4 4 ∧ hp v 0 = quad 0 4) ∧
      YieldsD (.mfa24 rt rs rd) σ rd (fun v => ∀ i < 4, hp v i = quad (2 * i) 2)) ∧
    (Encoded (.mfa41 rt rs rd) .op2 0b0101011 ∧ YieldsH (.mfa41 rt rs rd) σ rd (· = dbl 0 4)) ∧
    (Encoded (.mfa22 rt rs rd) .op2 0b0101110 ∧
      YieldsL (.mfa22 rt rs rd) σ rd fun v => hp v 1 = dbl 2 2 ∧ hp v 0 = dbl 0 2) ∧
    (Encoded (.mfa21 rt rs rd) .op2 0b0101101 ∧ YieldsH (.mfa21 rt rs rd) σ rd (· = word))

/-! ### Packed ALU -/

/-- A8, S8, MS8, A4, S4, MS4, MS2: lane by lane, scaled and narrowed (46_alu_packed.md R341..R347). It rests on
choices of the spec and the model: log entries 9, 26. -/
def Obligations.PackedLanes16 : Prop :=
  ∀ (σ : State) (rt rs rd : Reg), shiftHere σ ≠ 3 →
    let lane (x : Int) : Half := narrow 16 σ.me.sat (x / 2 ^ shiftHere σ)
    let t (i : Nat) : Int := sh (σ.me.q rt) i
    let s (i : Nat) : Int := sh (σ.me.q rs) i
    let t' (i : Nat) : Int := sh (σ.me.d rt) i
    let s' (i : Nat) : Int := sh (σ.me.d rs) i
    Encoded (.a8 rt rs rd) .op1 0b0100101 ∧ Encoded (.s8 rt rs rd) .op1 0b0100111 ∧
    Encoded (.ms8 rt rs rd) .op1 0b0101111 ∧
    (quadOk rt = true ∧ quadOk rs = true ∧ quadOk rd = true →
      YieldsQ (.a8 rt rs rd) σ rd (fun v => ∀ i < 8, hp v i = lane (s i + t i)) ∧
      YieldsQ (.s8 rt rs rd) σ rd (fun v => ∀ i < 8, hp v i = lane (s i - t i)) ∧
      YieldsQ (.ms8 rt rs rd) σ rd (fun v => ∀ i < 8, hp v i = lane |s i - t i|)) ∧
    (Encoded (.a4 rt rs rd) .op1 0b0100100 ∧
      YieldsD (.a4 rt rs rd) σ rd fun v => ∀ i < 4, hp v i = lane (s' i + t' i)) ∧
    (Encoded (.s4 rt rs rd) .op1 0b0100110 ∧
      YieldsD (.s4 rt rs rd) σ rd fun v => ∀ i < 4, hp v i = lane (s' i - t' i)) ∧
    (Encoded (.ms4 rt rs rd) .op1 0b0101110 ∧
      YieldsD (.ms4 rt rs rd) σ rd fun v => ∀ i < 4, hp v i = lane |s' i - t' i|) ∧
    (Encoded (.ms2 rt rs rd) .op1 0b0101101 ∧
      YieldsL (.ms2 rt rs rd) σ rd fun v => ∀ i < 2, hp v i = lane |sh (σ.me.l rs) i - sh (σ.me.l rt) i|)

/-- ALL4, ALL2, AL4, AL2: 32-bit lanes, scaled and narrowed; AL4 and AL2 add a sign-extended 16-bit part (R348..R351).
It rests on choices of the spec and the model: log entries 9, 26. -/
def Obligations.PackedLanes32 : Prop :=
  ∀ (σ : State) (rt rs rd : Reg), shiftHere σ ≠ 3 →
    let lane (x : Int) : Word := narrow 32 σ.me.sat (x / 2 ^ shiftHere σ)
    Encoded (.all4 rt rs rd) .op1 0b0110100 ∧ Encoded (.al4 rt rs rd) .op1 0b0110110 ∧
    (quadOk rt = true ∧ quadOk rs = true ∧ quadOk rd = true →
      YieldsQ (.all4 rt rs rd) σ rd fun v => ∀ i < 4, wp v i = lane (sw (σ.me.q rt) i + sw (σ.me.q rs) i)) ∧
    (quadOk rs = true ∧ quadOk rd = true →
      YieldsQ (.al4 rt rs rd) σ rd fun v => ∀ i < 4, wp v i = lane (sh (σ.me.d rt) i + sw (σ.me.q rs) i)) ∧
    (Encoded (.all2 rt rs rd) .op1 0b0110101 ∧
      YieldsD (.all2 rt rs rd) σ rd fun v => ∀ i < 2, wp v i = lane (sw (σ.me.d rt) i + sw (σ.me.d rs) i)) ∧
    (Encoded (.al2 rt rs rd) .op1 0b0110111 ∧
      YieldsD (.al2 rt rs rd) σ rd fun v => ∀ i < 2, wp v i = lane (sh (σ.me.l rt) i + sw (σ.me.d rs) i))

/-- A81, A42 (any scaling, 3 too), A24 (not 3): exact sums, then scaled, then narrowed. ALLFT41, ALLFT22: 32-bit sums
rounded to 16 bits by CFG.RND, then narrowed, never scaled (R352..R356). It rests on choices of the spec and the model:
log entries 8, 9, 23, 26. -/
def Obligations.HorizontalSums : Prop :=
  ∀ (σ : State) (rs rd : Reg), quadOk rs = true →
    let S := σ.me.q rs
    let lane (x : Int) : Half := narrow 16 σ.me.sat (x / 2 ^ shiftHere σ)
    let sum (start count : Nat) : Int := ∑ i ∈ Finset.range count, sh S (start + i)
    (Encoded (.a81 rs rd) .op1 0b0111001 ∧ YieldsH (.a81 rs rd) σ rd (· = lane (sum 0 8))) ∧
    (Encoded (.a42 rs rd) .op1 0b0111010 ∧
      YieldsL (.a42 rs rd) σ rd fun v => hp v 1 = lane (sum 4 4) ∧ hp v 0 = lane (sum 0 4)) ∧
    (Encoded (.a24 rs rd) .op1 0b0111011 ∧
      (shiftHere σ ≠ 3 → YieldsD (.a24 rs rd) σ rd fun v => ∀ i < 4, hp v i = lane (sum (2 * i) 2))) ∧
    (Encoded (.allft41 rs rd) .op1 0b0110010 ∧
      YieldsH (.allft41 rs rd) σ rd
        (· = narrow 16 σ.me.sat (roundBy σ.cfg.rounding (sw S 3 + sw S 2 + sw S 1 + sw S 0) 16))) ∧
    (Encoded (.allft22 rs rd) .op1 0b0110011 ∧
      YieldsL (.allft22 rs rd) σ rd fun v =>
        hp v 1 = narrow 16 σ.me.sat (roundBy σ.cfg.rounding (sw S 3 + sw S 2) 16) ∧
        hp v 0 = narrow 16 σ.me.sat (roundBy σ.cfg.rounding (sw S 1 + sw S 0) 16))

/-- The complex add/subtract pairs and the FFT butterflies, part by part from the highest (R357..R359, R366..R369). It
rests on choices of the spec and the model: log entries 9, 26. -/
def Obligations.ComplexPairs : Prop :=
  ∀ (σ : State) (rt rs rd : Reg), shiftHere σ ≠ 3 →
    let lane (x : Int) : Half := narrow 16 σ.me.sat (x / 2 ^ shiftHere σ)
    let parts (v : Quad) : List Half := [hp v 7, hp v 6, hp v 5, hp v 4, hp v 3, hp v 2, hp v 1, hp v 0]
    let t (i : Nat) : Int := sh (σ.me.d rt) i
    let s (i : Nat) : Int := sh (σ.me.d rs) i
    let T (i : Nat) : Int := sh (σ.me.q rt) i
    let S (i : Nat) : Int := sh (σ.me.q rs) i
    Encoded (.asx2 rt rs rd) .op1 0b0100001 ∧ Encoded (.asxs2 rt rs rd) .op1 0b0100011 ∧
    Encoded (.bf4 rt rs rd) .op1 0b0111100 ∧ Encoded (.bif4 rt rs rd) .op1 0b0111101 ∧
    Encoded (.axj4 rt rs rd) .op1 0b0111110 ∧ Encoded (.sxj4 rt rs rd) .op1 0b0111111 ∧
    (quadOk rd = true →
      YieldsQ (.asx2 rt rs rd) σ rd (fun v => parts v = [lane (s 3 - t 3), lane (s 2 - t 2), lane (s 3 + t 3),
        lane (s 2 + t 2), lane (s 1 - t 1), lane (s 0 - t 0), lane (s 1 + t 1), lane (s 0 + t 0)]) ∧
      YieldsQ (.asxs2 rt rs rd) σ rd (fun v => parts v = [lane (s 3 - t 2), lane (s 2 + t 3), lane (s 1 - t 0),
        lane (s 0 + t 1), lane (s 3 + t 2), lane (s 2 - t 3), lane (s 1 + t 0), lane (s 0 - t 1)]) ∧
      YieldsQ (.bf4 rt rs rd) σ rd (fun v => parts v = [lane (s 3 - t 2), lane (s 2 + t 3), lane (s 1 - t 1),
        lane (s 0 - t 0), lane (s 3 + t 2), lane (s 2 - t 3), lane (s 1 + t 1), lane (s 0 + t 0)]) ∧
      YieldsQ (.bif4 rt rs rd) σ rd (fun v => parts v = [lane (s 3 + t 2), lane (s 2 - t 3), lane (s 1 - t 1),
        lane (s 0 - t 0), lane (s 3 - t 2), lane (s 2 + t 3), lane (s 1 + t 1), lane (s 0 + t 0)])) ∧
    (quadOk rt = true ∧ quadOk rs = true ∧ quadOk rd = true →
      YieldsQ (.axj4 rt rs rd) σ rd (fun v => ∀ k < 4,
        hp v (2 * k + 1) = lane (S (2 * k + 1) - T (2 * k)) ∧ hp v (2 * k) = lane (S (2 * k) + T (2 * k + 1))) ∧
      YieldsQ (.sxj4 rt rs rd) σ rd (fun v => ∀ k < 4,
        hp v (2 * k + 1) = lane (S (2 * k + 1) + T (2 * k)) ∧ hp v (2 * k) = lane (S (2 * k) - T (2 * k + 1)))) ∧
    (Encoded (.asxs rt rs rd) .op1 0b0100010 ∧
      YieldsD (.asxs rt rs rd) σ rd fun v =>
        hp v 3 = lane (sh (σ.me.l rs) 1 - sh (σ.me.l rt) 0) ∧ hp v 2 = lane (sh (σ.me.l rs) 0 + sh (σ.me.l rt) 1) ∧
        hp v 1 = lane (sh (σ.me.l rs) 1 + sh (σ.me.l rt) 0) ∧ hp v 0 = lane (sh (σ.me.l rs) 0 - sh (σ.me.l rt) 1))

/-- The running sums: part i is the old d0 plus s0 - t0 .. si - ti, modulo 2^16. The signed sums: bit i of T negates
s_i. A8s, S8s take the core's scaling whether or not the instance carries the modifier (R360..R365). It rests on
choices of the spec and the model: log entries 9, 26. -/
def Obligations.AccumulatingSums : Prop :=
  ∀ (σ : State) (rt rs rd : Reg),
    let lane (k : Nat) (x : Int) : Half := narrow 16 σ.me.sat (x / 2 ^ k)
    let T := σ.me.q rt
    let S := σ.me.q rs
    let T' := σ.me.d rt
    let S' := σ.me.d rs
    Encoded (.sga8 rt rs rd) .op1 0b0101011 ∧ Encoded (.sga4 rt rs rd) .op1 0b0101010 ∧
    Encoded (.a8s rt rs rd) .op1 0b0101100 ∧ Encoded (.s8s rt rs rd) .op1 0b0110000 ∧
    (shiftHere σ ≠ 3 → quadOk rt = true ∧ quadOk rs = true ∧ quadOk rd = true →
      YieldsQ (.sga8 rt rs rd) σ rd fun v => ∀ i < 8,
        hp v i = lane (shiftHere σ) (sh (σ.me.q rd) i + if T.getLsbD i then -sh S i else sh S i)) ∧
    (shiftHere σ ≠ 3 →
      YieldsD (.sga4 rt rs rd) σ rd fun v => ∀ i < 4,
        hp v i = lane (shiftHere σ) (sh (σ.me.d rd) i + if T'.getLsbD i then -sh S' i else sh S' i)) ∧
    (σ.me.scale ≠ 3 → quadOk rt = true ∧ quadOk rs = true ∧ quadOk rd = true →
      YieldsQ (.a8s rt rs rd) σ rd (fun v => ∀ i < 8, hp v i = lane σ.me.scale.toNat (sh S i + sh T i)) ∧
      YieldsQ (.s8s rt rs rd) σ rd (fun v => ∀ i < 8, hp v i = lane σ.me.scale.toNat (sh S i - sh T i))) ∧
    Encoded (.ra8 rt rs rd) .op1 0b0101001 ∧
    (quadOk rt = true ∧ quadOk rs = true ∧ quadOk rd = true →
      YieldsQ (.ra8 rt rs rd) σ rd fun v => ∀ i < 8, hp v i = BitVec.ofInt 16
        (sh (σ.me.q rd) 0 + ∑ j ∈ Finset.range (i + 1), (sh (σ.me.q rs) j - sh (σ.me.q rt) j))) ∧
    (Encoded (.ra4 rt rs rd) .op1 0b0101000 ∧
      YieldsD (.ra4 rt rs rd) σ rd fun v => ∀ i < 4, hp v i = BitVec.ofInt 16
        (sh (σ.me.d rd) 0 + ∑ j ∈ Finset.range (i + 1), (sh (σ.me.d rs) j - sh (σ.me.d rt) j)))

/-- A scaled instance with CFG.SCALE = 3 is refused, A8s and S8s always, unless it is A81 or A42 (R340, R364;
00_scope.md R17). It rests on choices of the spec and the model: log entries 9, 26. -/
def Obligations.ScaleThreeRefused : Prop :=
  ∀ (σ : State) (x : Instr), σ.me.scale = 3 → x.wf σ.cfg.macNField = true →
    (∀ rt rs rd, x ∈ [Instr.a8s rt rs rd, .s8s rt rs rd] → exec x σ = .refused .scaleThree) ∧
    (∀ rt rs rd, σ.me.pc ∈ σ.me.scaledAt →
      x ∈ [Instr.a8 rt rs rd, .s8 rt rs rd, .ms8 rt rs rd, .a4 rt rs rd, .s4 rt rs rd, .ms4 rt rs rd, .ms2 rt rs rd,
        .all4 rt rs rd, .all2 rt rs rd, .al4 rt rs rd, .al2 rt rs rd, .a24 rs rd, .asx2 rt rs rd, .asxs2 rt rs rd,
        .asxs rt rs rd, .sga8 rt rs rd, .sga4 rt rs rd, .bf4 rt rs rd, .bif4 rt rs rd, .axj4 rt rs rd,
        .sxj4 rt rs rd] → exec x σ = .refused .scaleThree)

/-- What narrowing, rounding and the scaling shift are as integers: the saturating narrowing clamps, the wrapping one
is congruent; the default of CFG.RND gives a nearest integer, the even one of two; the shift is the floor (00_scope.md
R15..R17). It rests on choices of the spec and the model: log entries 8, 23, 26. -/
def Obligations.LaneArithmetic : Prop :=
  (∀ (n : Nat) (x : Int), 0 < n →
    (narrow n true x).toInt = max (-(2 ^ (n - 1))) (min (2 ^ (n - 1) - 1) x) ∧
    ((narrow n false x).toInt - x) % 2 ^ n = 0) ∧
  (∀ (x : Int) (k : Nat), 0 < k →
    let r := roundBy .nearestEven x k
    2 * |2 ^ k * r - x| ≤ 2 ^ k ∧ (2 * |2 ^ k * r - x| = 2 ^ k → r % 2 = 0)) ∧
  (∀ (x : Int) (k : Nat), 2 ^ k * shrInt x k ≤ x ∧ x < 2 ^ k * (shrInt x k + 1))

/-! ### Comparisons and searches -/

/-- The packed comparisons: D moves right by the number of flags, the new flags enter at the top, flag by flag
(47_compare_minmax.md R381..R388). It rests on choices of the spec and the model: log entry 31. -/
def Obligations.PackedCompare : Prop :=
  ∀ (σ : State) (rt rs rd : Reg),
    let T := σ.me.d rt
    let S := σ.me.d rs
    let D := σ.me.d rd
    let TQ := σ.me.q rt
    let SQ := σ.me.q rs
    let DQ := σ.me.q rd
    (Encoded (.cmpn4 rt rs rd) .op1 0b1100000 ∧
      YieldsD (.cmpn4 rt rs rd) σ rd fun v => (∀ i < 60, v.getLsbD i = D.getLsbD (i + 4)) ∧
        ∀ i < 4, v.getLsbD (60 + i) = decide (sh S i < sh T i)) ∧
    (Encoded (.cmpz4 rt rs rd) .op1 0b1100010 ∧
      YieldsD (.cmpz4 rt rs rd) σ rd fun v => (∀ i < 60, v.getLsbD i = D.getLsbD (i + 4)) ∧
        ∀ i < 4, v.getLsbD (60 + i) = decide (hp S i = hp T i)) ∧
    (Encoded (.cmpnl2 rt rs rd) .op1 0b1100100 ∧
      YieldsD (.cmpnl2 rt rs rd) σ rd fun v => (∀ i < 62, v.getLsbD i = D.getLsbD (i + 2)) ∧
        ∀ i < 2, v.getLsbD (62 + i) = decide (sw S i < sw T i)) ∧
    (Encoded (.cmpzl2 rt rs rd) .op1 0b1100110 ∧
      YieldsD (.cmpzl2 rt rs rd) σ rd fun v => (∀ i < 62, v.getLsbD i = D.getLsbD (i + 2)) ∧
        ∀ i < 2, v.getLsbD (62 + i) = decide (wp S i = wp T i)) ∧
    Encoded (.cmpn8 rt rs rd) .op1 0b1100001 ∧ Encoded (.cmpz8 rt rs rd) .op1 0b1100011 ∧
    Encoded (.cmpnl4 rt rs rd) .op1 0b1100101 ∧ Encoded (.cmpzl4 rt rs rd) .op1 0b1100111 ∧
    (quadOk rt = true ∧ quadOk rs = true ∧ quadOk rd = true →
      YieldsQ (.cmpn8 rt rs rd) σ rd (fun v => (∀ i < 120, v.getLsbD i = DQ.getLsbD (i + 8)) ∧
        ∀ i < 8, v.getLsbD (120 + i) = decide (sh SQ i < sh TQ i)) ∧
      YieldsQ (.cmpz8 rt rs rd) σ rd (fun v => (∀ i < 120, v.getLsbD i = DQ.getLsbD (i + 8)) ∧
        ∀ i < 8, v.getLsbD (120 + i) = decide (hp SQ i = hp TQ i)) ∧
      YieldsQ (.cmpnl4 rt rs rd) σ rd (fun v => (∀ i < 124, v.getLsbD i = DQ.getLsbD (i + 4)) ∧
        ∀ i < 4, v.getLsbD (124 + i) = decide (sw SQ i < sw TQ i)) ∧
      YieldsQ (.cmpzl4 rt rs rd) σ rd (fun v => (∀ i < 124, v.getLsbD i = DQ.getLsbD (i + 4)) ∧
        ∀ i < 4, v.getLsbD (124 + i) = decide (wp SQ i = wp TQ i)))

/-- The searches over 16-bit parts: a maximum (minimum) m of the block replaces d3 when m ≥ d3 (m ≤ d3) and T plus its
local number replaces d0; d2 and d1 stay; otherwise D stays (R389, R391, R393, R395). It rests on choices of the spec
and the model: log entry 12. -/
def Obligations.Search16 : Prop :=
  ∀ (σ : State) (rt rs rd : Reg),
    let D := σ.me.d rd
    let found (v : Dbl) (m : Int) (n : Nat) : Prop :=
      sh v 3 = m ∧ hp v 2 = hp D 2 ∧ hp v 1 = hp D 1 ∧ hp v 0 = σ.me.h rt + BitVec.ofNat 16 n
    let maximum (s : Nat → Int) (count : Nat) (v : Dbl) : Prop :=
      ∃ m n, (∀ i < count, s i ≤ m) ∧ TiePick σ.cfg.maxminTie s count m n ∧
        (sh D 3 ≤ m → found v m n) ∧ (m < sh D 3 → v = D)
    let minimum (s : Nat → Int) (count : Nat) (v : Dbl) : Prop :=
      ∃ m n, (∀ i < count, m ≤ s i) ∧ TiePick σ.cfg.maxminTie s count m n ∧
        (m ≤ sh D 3 → found v m n) ∧ (sh D 3 < m → v = D)
    Encoded (.max4 rt rs rd) .op1 0b1101000 ∧ Encoded (.max8 rt rs rd) .op1 0b1101001 ∧
    Encoded (.min4 rt rs rd) .op1 0b1101010 ∧ Encoded (.min8 rt rs rd) .op1 0b1101011 ∧
    YieldsD (.max4 rt rs rd) σ rd (maximum (sh (σ.me.d rs)) 4) ∧
    YieldsD (.min4 rt rs rd) σ rd (minimum (sh (σ.me.d rs)) 4) ∧
    (quadOk rs = true →
      YieldsD (.max8 rt rs rd) σ rd (maximum (sh (σ.me.q rs)) 8) ∧
      YieldsD (.min8 rt rs rd) σ rd (minimum (sh (σ.me.q rs)) 8))

/-- The searches over 32-bit parts: the same with D1 and d0, d1 staying (R390, R392, R394, R396). It rests on choices
of the spec and the model: log entry 12. -/
def Obligations.Search32 : Prop :=
  ∀ (σ : State) (rt rs rd : Reg),
    let D := σ.me.d rd
    let found (v : Dbl) (m : Int) (n : Nat) : Prop :=
      sw v 1 = m ∧ hp v 1 = hp D 1 ∧ hp v 0 = σ.me.h rt + BitVec.ofNat 16 n
    let maximum (s : Nat → Int) (count : Nat) (v : Dbl) : Prop :=
      ∃ m n, (∀ i < count, s i ≤ m) ∧ TiePick σ.cfg.maxminTie s count m n ∧
        (sw D 1 ≤ m → found v m n) ∧ (m < sw D 1 → v = D)
    let minimum (s : Nat → Int) (count : Nat) (v : Dbl) : Prop :=
      ∃ m n, (∀ i < count, m ≤ s i) ∧ TiePick σ.cfg.maxminTie s count m n ∧
        (m ≤ sw D 1 → found v m n) ∧ (sw D 1 < m → v = D)
    Encoded (.maxl2 rt rs rd) .op1 0b1101100 ∧ Encoded (.maxl4 rt rs rd) .op1 0b1101101 ∧
    Encoded (.minl2 rt rs rd) .op1 0b1101110 ∧ Encoded (.minl4 rt rs rd) .op1 0b1101111 ∧
    YieldsD (.maxl2 rt rs rd) σ rd (maximum (sw (σ.me.d rs)) 2) ∧
    YieldsD (.minl2 rt rs rd) σ rd (minimum (sw (σ.me.d rs)) 2) ∧
    (quadOk rs = true →
      YieldsD (.maxl4 rt rs rd) σ rd (maximum (sw (σ.me.q rs)) 4) ∧
      YieldsD (.minl4 rt rs rd) σ rd (minimum (sw (σ.me.q rs)) 4))

/-! ### Accumulators -/

/-- CLRAC clears exactly the accumulators whose bit of T is 1 (44_mac.md R276). -/
def Obligations.ClearAccumulators : Prop :=
  ∀ (σ : State) (rt : Reg), Encoded (.clrac rt) .op2 0b1001001 ∧
    ∃ τ, exec (.clrac rt) σ = .next τ ∧
      (∀ n : BitVec 4, τ.me.acL n = if (σ.me.h rt).getLsbD n.toNat then 0 else σ.me.acL n) ∧
      Frame σ τ 0 (σ.me.h rt) 0

/-- LDAC, LDACD, STAC, STACD with a one-hot selector, and their refusal with any other (R277..R280). It rests on
choices of the spec and the model: log entries 14, 28. -/
def Obligations.MoveAccumulators : Prop :=
  ∀ (σ : State) (rt r : Reg),
    Encoded (.ldac rt r) .op2 0b1001010 ∧ Encoded (.ldacd rt r) .op2 0b1001011 ∧
    Encoded (.stac rt r) .op2 0b1001100 ∧ Encoded (.stacd rt r) .op2 0b1001101 ∧
    (∀ n : BitVec 4, σ.me.h rt = BitVec.twoPow 16 n.toNat →
      YieldsL (.ldac rt r) σ r (· = σ.me.acL n) ∧
      ∃ τ, exec (.stac rt r) σ = .next τ ∧ τ.me.acL n = σ.me.l r ∧ Frame σ τ 0 (BitVec.twoPow 16 n.toNat) 0) ∧
    (∀ n : BitVec 3, σ.me.h rt = BitVec.twoPow 16 n.toNat →
      YieldsD (.ldacd rt r) σ r (· = σ.me.acc64 n) ∧
      ∃ τ, exec (.stacd rt r) σ = .next τ ∧ τ.me.acc64 n = σ.me.d r ∧ Frame σ τ 0 (accMask n) 0) ∧
    ((∀ n < 16, σ.me.h rt ≠ BitVec.twoPow 16 n) →
      exec (.ldac rt r) σ = .refused .selector ∧ exec (.stac rt r) σ = .refused .selector) ∧
    ((∀ n < 8, σ.me.h rt ≠ BitVec.twoPow 16 n) →
      exec (.ldacd rt r) σ = .refused .selector ∧ exec (.stacd rt r) σ = .refused .selector)

/-- The sums of products into one, two or four accumulators, numbered from the field that CFG.MAC_N_FIELD selects
(R281..R286). It rests on choices of the spec and the model: log entries 8, 14, 26. -/
def Obligations.MacSums : Prop :=
  ∀ (σ : State) (rt rs : Reg) (n : BitVec 5),
    let num := accField σ.cfg.macNField rt rs n
    let a := accNumber num
    let quad (start count : Nat) : Int :=
      ∑ i ∈ Finset.range count, sh (σ.me.q rt) (start + i) * sh (σ.me.q rs) (start + i)
    let dbl (start count : Nat) : Int :=
      ∑ i ∈ Finset.range count, sh (σ.me.d rt) (start + i) * sh (σ.me.d rs) (start + i)
    let word : Int := ∑ i ∈ Finset.range 2, sh (σ.me.l rt) i * sh (σ.me.l rs) i
    let even : Prop := quadOk rt = true ∧ quadOk rs = true
    Encoded (.mac81 rt rs n) .op2 0b1000110 ∧ Encoded (.mac42 rt rs n) .op2 0b1010000 ∧
    Encoded (.mac41 rt rs n) .op2 0b1000101 ∧ Encoded (.mac24 rt rs n) .op2 0b1010001 ∧
    Encoded (.mac22 rt rs n) .op2 0b1010010 ∧ Encoded (.mac21 rt rs n) .op2 0b1010011 ∧
    (num.toNat ∈ [0, 1, 2, 3, 4, 5, 6, 7] →
      (even → Accumulates (.mac81 rt rs n) σ [(a, quad 0 8)]) ∧
      Accumulates (.mac41 rt rs n) σ [(a, dbl 0 4)] ∧ Accumulates (.mac21 rt rs n) σ [(a, word)]) ∧
    (num.toNat ∈ [0, 2, 4, 6] →
      (even → Accumulates (.mac42 rt rs n) σ [(a + 1, quad 4 4), (a, quad 0 4)]) ∧
      Accumulates (.mac22 rt rs n) σ [(a + 1, dbl 2 2), (a, dbl 0 2)]) ∧
    (num.toNat ∈ [0, 4] → even →
      Accumulates (.mac24 rt rs n) σ [(a, quad 0 2), (a + 1, quad 2 2), (a + 2, quad 4 2), (a + 3, quad 6 2)])

/-- The separate products into eight, four, two accumulators or one, numbered from the field that CFG.MAC_N_FIELD
selects (R287..R290). It rests on choices of the spec and the model: log entries 8, 14, 26. -/
def Obligations.MacSeparate : Prop :=
  ∀ (σ : State) (rt rs : Reg) (n : BitVec 5),
    let num := accField σ.cfg.macNField rt rs n
    let a := accNumber num
    let quad (i : Nat) : Int := sh (σ.me.q rt) i * sh (σ.me.q rs) i
    let dbl (i : Nat) : Int := sh (σ.me.d rt) i * sh (σ.me.d rs) i
    let word (i : Nat) : Int := sh (σ.me.l rt) i * sh (σ.me.l rs) i
    Encoded (.mac18 rt rs) .op2 0b1010100 ∧ Encoded (.mac14 rt rs n) .op2 0b1010101 ∧
    Encoded (.mac12 rt rs n) .op2 0b1010110 ∧ Encoded (.mac11 rt rs n) .op2 0b1010111 ∧
    (quadOk rt = true ∧ quadOk rs = true →
      Accumulates (.mac18 rt rs) σ [(0, quad 0), (1, quad 1), (2, quad 2), (3, quad 3), (4, quad 4), (5, quad 5),
        (6, quad 6), (7, quad 7)]) ∧
    (num.toNat ∈ [0, 4] →
      Accumulates (.mac14 rt rs n) σ [(a, dbl 0), (a + 1, dbl 1), (a + 2, dbl 2), (a + 3, dbl 3)]) ∧
    (num.toNat ∈ [0, 2, 4, 6] → Accumulates (.mac12 rt rs n) σ [(a + 1, word 1), (a, word 0)]) ∧
    (num.toNat ∈ [0, 1, 2, 3, 4, 5, 6, 7] →
      Accumulates (.mac11 rt rs n) σ [(a, (σ.me.h rt).toInt * (σ.me.h rs).toInt)])

/-- The complex multiply-accumulates: real part into AC(n+1), imaginary part into ACn, n in the field that
CFG.MAC_N_FIELD selects (R291..R294). It rests on choices of the spec and the model: log entries 8, 14, 26. -/
def Obligations.MacComplex : Prop :=
  ∀ (σ : State) (rt rs : Reg) (n : BitVec 5),
    let num := accField σ.cfg.macNField rt rs n
    num.toNat ∈ [0, 2, 4, 6] →
    let a := accNumber num
    let X (i k : Nat) : Int := sh (σ.me.d rt) i * sh (σ.me.d rs) k
    let Y (i k : Nat) : Int := sh (σ.me.l rt) i * sh (σ.me.l rs) k
    (Encoded (.macx2 rt rs n) .op2 0b1000010 ∧
      Accumulates (.macx2 rt rs n) σ
        [(a + 1, X 3 3 - X 2 2 + X 1 1 - X 0 0), (a, X 3 2 + X 2 3 + X 1 0 + X 0 1)]) ∧
    (Encoded (.macxc2 rt rs n) .op2 0b1000100 ∧
      Accumulates (.macxc2 rt rs n) σ
        [(a + 1, X 3 3 + X 2 2 + X 1 1 + X 0 0), (a, -X 3 2 + X 2 3 - X 1 0 + X 0 1)]) ∧
    (Encoded (.macx rt rs n) .op2 0b1000001 ∧
      Accumulates (.macx rt rs n) σ [(a + 1, Y 1 1 - Y 0 0), (a, Y 1 0 + Y 0 1)]) ∧
    (Encoded (.macxc rt rs n) .op2 0b1000011 ∧
      Accumulates (.macxc rt rs n) σ [(a + 1, Y 1 1 + Y 0 0), (a, -Y 1 0 + Y 0 1)])

/-- MACXB4, MACL2 and the signed sums ACSG8, ACSG4, ACSG2, ACSG1, where bit i of T negates s_i; n stands in the field
that CFG.MAC_N_FIELD selects (R295..R300). It rests on choices of the spec and the model: log entries 8, 14, 26. -/
def Obligations.MacAdditional : Prop :=
  ∀ (σ : State) (rt rs : Reg) (n : BitVec 5),
    let num := accField σ.cfg.macNField rt rs n
    let a := accNumber num
    let tre (i : Nat) : Int := (bp (σ.me.q rt) (4 * i + 3)).toInt
    let tim (i : Nat) : Int := (bp (σ.me.q rt) (4 * i + 1)).toInt
    let sre (i : Nat) : Int := (bp (σ.me.q rs) (4 * i + 3)).toInt
    let sim (i : Nat) : Int := (bp (σ.me.q rs) (4 * i + 1)).toInt
    let signed (i : Nat) (s : Int) : Int := if (σ.me.h rt).getLsbD i then -s else s
    let quad (i : Nat) : Int := signed i (sh (σ.me.q rs) i)
    let dbl (i : Nat) : Int := signed i (sh (σ.me.d rs) i)
    let word (i : Nat) : Int := signed i (sh (σ.me.l rs) i)
    Encoded (.macxb4 rt rs n) .op2 0b1000111 ∧ Encoded (.macl2 rt rs n) .op2 0b1001000 ∧
    Encoded (.acsg8 rt rs) .op2 0b1011000 ∧ Encoded (.acsg4 rt rs n) .op2 0b1011001 ∧
    Encoded (.acsg2 rt rs n) .op2 0b1011010 ∧ Encoded (.acsg1 rt rs n) .op2 0b1011011 ∧
    (num.toNat ∈ [0, 2, 4, 6] → quadOk rt = true ∧ quadOk rs = true →
      Accumulates (.macxb4 rt rs n) σ
        [(a + 1, ∑ i ∈ Finset.range 4, (tre i * sre i + tim i * sim i)),
          (a, ∑ i ∈ Finset.range 4, (tim i * sre i - tre i * sim i))]) ∧
    (num.toNat ∈ [0, 1, 2, 3, 4, 5, 6, 7] →
      Accumulates (.macl2 rt rs n) σ
        [(a, sw (σ.me.d rt) 1 * sw (σ.me.d rs) 1 + sw (σ.me.d rt) 0 * sw (σ.me.d rs) 0)] ∧
      Accumulates (.acsg1 rt rs n) σ [(a, signed 0 (σ.me.h rs).toInt)]) ∧
    (quadOk rs = true →
      Accumulates (.acsg8 rt rs) σ [(0, quad 0), (1, quad 1), (2, quad 2), (3, quad 3), (4, quad 4), (5, quad 5),
        (6, quad 6), (7, quad 7)]) ∧
    (num.toNat ∈ [0, 4] →
      Accumulates (.acsg4 rt rs n) σ [(a, dbl 0), (a + 1, dbl 1), (a + 2, dbl 2), (a + 3, dbl 3)]) ∧
    (num.toNat ∈ [0, 2, 4, 6] → Accumulates (.acsg2 rt rs n) σ [(a, word 0), (a + 1, word 1)])

/-! ### The transfer block -/

/-- The whole-operand move, the word shifts and the permutations TRS0..TRS3, TRS9..TRS13, in both slots
(49_trs.md R436..R439, R446..R450). -/
def Obligations.TransferPermutations : Prop :=
  ∀ (σ : State) (rt rs rd : Reg),
    let T := σ.me.d rt
    let S := σ.me.d rs
    let parts4 (v : Dbl) : List Half := [hp v 3, hp v 2, hp v 1, hp v 0]
    let parts8 (v : Quad) : List Half := [hp v 7, hp v 6, hp v 5, hp v 4, hp v 3, hp v 2, hp v 1, hp v 0]
    (∀ p ∈ [(Instr.trs1 rt rs rd, Place.op1), (.trs1B rt rs rd, .op2)], Encoded p.1 p.2 0b0010001 ∧
      YieldsD p.1 σ rd fun v => parts4 v = [hp T 0, hp S 3, hp S 2, hp S 1]) ∧
    (∀ p ∈ [(Instr.trs2 rt rs rd, Place.op1), (.trs2B rt rs rd, .op2)], Encoded p.1 p.2 0b0010010 ∧
      YieldsD p.1 σ rd fun v => parts4 v = [hp T 1, hp T 0, hp S 3, hp S 2]) ∧
    (∀ p ∈ [(Instr.trs3 rt rs rd, Place.op1), (.trs3B rt rs rd, .op2)], Encoded p.1 p.2 0b0010011 ∧
      YieldsD p.1 σ rd fun v => parts4 v = [hp T 2, hp T 1, hp T 0, hp S 3]) ∧
    (∀ p ∈ [(Instr.trs9 rs rd, Place.op1), (.trs9B rs rd, .op2)], Encoded p.1 p.2 0b0011001 ∧
      YieldsD p.1 σ rd fun v => parts4 v = [hp S 0, hp S 1, hp S 2, hp S 3]) ∧
    (∀ p ∈ [(Instr.trs10 rs rd, Place.op1), (.trs10B rs rd, .op2)], Encoded p.1 p.2 0b0011010 ∧
      YieldsD p.1 σ rd fun v => parts4 v = [hp S 3, hp S 1, hp S 2, hp S 0]) ∧
    (∀ p ∈ [(Instr.trs0 rs rd, Place.op1), (.trs0B rs rd, .op2)], Encoded p.1 p.2 0b0010000 ∧
      (quadOk rs = true ∧ quadOk rd = true → YieldsQ p.1 σ rd (· = σ.me.q rs))) ∧
    (∀ p ∈ [(Instr.trs11 rt rs rd, Place.op1), (.trs11B rt rs rd, .op2)], Encoded p.1 p.2 0b0011011 ∧
      (quadOk rd = true → YieldsQ p.1 σ rd fun v =>
        parts8 v = [hp T 3, hp T 2, hp S 3, hp S 2, hp T 1, hp T 0, hp S 1, hp S 0])) ∧
    (∀ p ∈ [(Instr.trs12 rt rs rd, Place.op1), (.trs12B rt rs rd, .op2)], Encoded p.1 p.2 0b0011100 ∧
      (quadOk rd = true → YieldsQ p.1 σ rd fun v =>
        parts8 v = [hp T 3, hp S 3, hp T 2, hp S 2, hp T 1, hp S 1, hp T 0, hp S 0])) ∧
    (∀ p ∈ [(Instr.trs13 rt rs rd, Place.op1), (.trs13B rt rs rd, .op2)], Encoded p.1 p.2 0b0011101 ∧
      (quadOk rd = true → YieldsQ p.1 σ rd fun v =>
        parts8 v = [hp T 3, hp T 1, hp S 3, hp S 1, hp T 2, hp T 0, hp S 2, hp S 0]))

/-- The widenings TRS4..TRS6 and the narrowings TRS7, TRS8, TRS15..TRS17, TRS19, in both slots; the narrowings
saturate in either mode, the fractional ones after rounding by CFG.RND (R440..R445, R452..R454, R456). It rests on
choices of the spec and the model: log entries 8, 23, 31. -/
def Obligations.TransferConversions : Prop :=
  ∀ (σ : State) (rs rd : Reg),
    let B (i : Nat) : BitVec 8 := bp (σ.me.d rs) i
    let h (i : Nat) : Int := sh (σ.me.q rs) i
    let w (i : Nat) : Int := sw (σ.me.q rs) i
    let clampS (n : Nat) (x : Int) : Int := max (-(2 ^ (n - 1))) (min (2 ^ (n - 1) - 1) x)
    let clampU (n : Nat) (x : Int) : Int := max 0 (min (2 ^ n - 1) x)
    (∀ p ∈ [(Instr.trs4 rs rd, Place.op1), (.trs4B rs rd, .op2)], Encoded p.1 p.2 0b0010100 ∧
      (quadOk rd = true → YieldsQ p.1 σ rd fun v => ∀ i < 8, (hp v i).toNat = 256 * (B i).toNat)) ∧
    (∀ p ∈ [(Instr.trs5 rs rd, Place.op1), (.trs5B rs rd, .op2)], Encoded p.1 p.2 0b0010101 ∧
      (quadOk rd = true → YieldsQ p.1 σ rd fun v => ∀ i < 8, sh v i = (B i).toInt)) ∧
    (∀ p ∈ [(Instr.trs6 rs rd, Place.op1), (.trs6B rs rd, .op2)], Encoded p.1 p.2 0b0010110 ∧
      (quadOk rd = true → YieldsQ p.1 σ rd fun v => ∀ i < 8, (hp v i).toNat = (B i).toNat)) ∧
    (∀ p ∈ [(Instr.trs7 rs rd, Place.op1), (.trs7B rs rd, .op2)], Encoded p.1 p.2 0b0010111 ∧
      (quadOk rs = true → YieldsD p.1 σ rd fun v =>
        ∀ i < 8, (bp v i).toInt = clampS 8 (roundBy σ.cfg.rounding (h i) 8))) ∧
    (∀ p ∈ [(Instr.trs8 rs rd, Place.op1), (.trs8B rs rd, .op2)], Encoded p.1 p.2 0b0011000 ∧
      (quadOk rs = true → YieldsD p.1 σ rd fun v => ∀ i < 8, ((bp v i).toNat : Int) = clampU 8 (h i))) ∧
    (∀ p ∈ [(Instr.trs19 rs rd, Place.op1), (.trs19B rs rd, .op2)], Encoded p.1 p.2 0b0001110 ∧
      (quadOk rs = true → YieldsD p.1 σ rd fun v => ∀ i < 8, (bp v i).toInt = clampS 8 (h i))) ∧
    (∀ p ∈ [(Instr.trs15 rs rd, Place.op1), (.trs15B rs rd, .op2)], Encoded p.1 p.2 0b0011111 ∧
      (quadOk rs = true → YieldsD p.1 σ rd fun v => ∀ i < 4, sh v i = clampS 16 (roundBy σ.cfg.rounding (w i) 16))) ∧
    (∀ p ∈ [(Instr.trs16 rs rd, Place.op1), (.trs16B rs rd, .op2)], Encoded p.1 p.2 0b0000111 ∧
      (quadOk rs = true → YieldsD p.1 σ rd fun v => ∀ i < 4, sh v i = clampS 16 (w i))) ∧
    (∀ p ∈ [(Instr.trs17 rs rd, Place.op1), (.trs17B rs rd, .op2)], Encoded p.1 p.2 0b0001100 ∧
      (quadOk rs = true → YieldsD p.1 σ rd fun v => ∀ i < 4, ((hp v i).toNat : Int) = clampU 16 (w i)))

/-- TRS14 packs parts 2, 1, 0 clamped to 5, 6, 5 bits; TRS18 interleaves the bits of T (odd places) and S (even
places); both in both slots (R451, R455). It rests on choices of the spec and the model: log entry 31. -/
def Obligations.TransferPacking : Prop :=
  ∀ (σ : State) (rt rs rd : Reg),
    let field (v : Word) (lo n : Nat) : Int := (v.extractLsb' lo n).toNat
    let clamped (m x : Int) : Int := max 0 (min m x)
    let T := σ.me.d rt
    let S := σ.me.d rs
    (∀ p ∈ [(Instr.trs14 rt rs rd, Place.op1), (.trs14B rt rs rd, .op2)], Encoded p.1 p.2 0b0011110 ∧
      YieldsL p.1 σ rd fun v =>
        field v 27 5 = clamped 31 (sh T 2) ∧ field v 21 6 = clamped 63 (sh T 1) ∧
        field v 16 5 = clamped 31 (sh T 0) ∧ field v 11 5 = clamped 31 (sh S 2) ∧
        field v 5 6 = clamped 63 (sh S 1) ∧ field v 0 5 = clamped 31 (sh S 0)) ∧
    (∀ p ∈ [(Instr.trs18 rt rs rd, Place.op1), (.trs18B rt rs rd, .op2)], Encoded p.1 p.2 0b0001101 ∧
      YieldsL p.1 σ rd fun v => ∀ i < 16,
        v.getLsbD (2 * i + 1) = (σ.me.h rt).getLsbD i ∧ v.getLsbD (2 * i) = (σ.me.h rs).getLsbD i)

/-! ### Refused operands and NOP -/

/-- An odd `.Q` register, an accumulator number outside the instruction's list, an L bit that selects nothing, an
accumulator without the view, a move of PC or the stack registers: each is refused under its own name, in every state
(10_state.md R26, R29; 44_mac.md R275; 40_moves.md R191, R194). It rests on choices of the spec and the model: log
entries 8, 28. -/
def Obligations.IllFormedRefused : Prop :=
  ∀ (σ : State) (x : Instr) (e : IllFormed), x.check σ.cfg.macNField = some e → exec x σ = .refused (refusalOf e)

/-- The five NOP codes change nothing (41_control_and_changed_results.md R210); the register move of format 9b copies
64 bits with L = 0, 128 bits between even registers with L = 1 (40_moves.md R189). It rests on choices of the spec and
the model: log entry 28. -/
def Obligations.NopAndRegisterMove : Prop :=
  ∀ (σ : State) (rs rd : Reg),
    (Encoded .nop .op1 0b0000000 ∧ exec .nop σ = .next σ) ∧ (Encoded .nopHi .op1 0b1000000 ∧ exec .nopHi σ = .next σ) ∧
    (Encoded .nopB .op2 0b0000000 ∧ exec .nopB σ = .next σ) ∧
    (Encoded .nopBMid .op2 0b1000000 ∧ exec .nopBMid σ = .next σ) ∧
    (Encoded .nopBHi .op2 0b1100000 ∧ exec .nopBHi σ = .next σ) ∧
    YieldsD (.move9bR rs rd false) σ rd (· = σ.me.d rs) ∧
    (quadOk rs = true ∧ quadOk rd = true → YieldsQ (.move9bR rs rd true) σ rd (· = σ.me.q rs))

/-! ### Memory moves -/

/-- A load through A[a]: word j of the destination R[2r].D or R[2r].Q is a value that word w + j may read as, A[a]
gains what its mode says in its low 16 bits, and nothing else changes: no byte of memory, except that in a handler the
far writes that were pending at its start land first (40_moves.md R181, R183, R187, R188; 20_memory.md R100, R109;
60_exceptions.md R496). It rests on choices of the spec and the model: log entries 10, 12, 15, 16, 17. -/
def Obligations.LoadX : Prop :=
  ∀ (σ : State) (r : BitVec 4) (u : Bool) (mode a : BitVec 3) (de : Bool),
    let act := σ.cfg.aguMode.getD mode.toNat .unknown
    let m := if u then 4 else 2
    let p := σ.me.getA a
    let w := p.extractLsb' 0 16
    let seen := σ.viewFor w
    de ≠ σ.cfg.deDir → act ≠ .unknown → Reaches σ p m →
    ∃ τ, exec (.move9aX r u mode a de) σ = .next τ ∧
      (∀ j < m, wp (τ.me.q (r ++ 0#1)) j ∈ readable seen (w + BitVec.ofNat 16 j)) ∧
      τ.me.getA a = p.extractLsb' 16 16 ++ (w + gain act m (σ.me.getI a)) ∧
      (∀ b, readByte τ.mem b = readByte seen.mem b) ∧
      (isFar σ.turn w = false ∨ σ.me.inIsr = false → seen = σ) ∧
      (∀ n : BitVec 7, (unitMask (r ++ 0#1) (if u then .w128 else .w64)).getLsbD n.toNat = false →
        τ.me.unit n = σ.me.unit n) ∧
      (∀ c, c ≠ a → τ.me.getA c = σ.me.getA c) ∧
      τ = { seen.onMe fun k => { k with rows := τ.me.rows, a := τ.me.a } with free := τ.free }

/-- A store through A[a]: the words w .. w + m - 1 take the parts of R[2r].D or R[2r].Q; in near memory at once, no
other byte of memory changing; in far memory by joining the core's pending far writes in order, memory itself
unchanged. A[a] gains what its mode says; nothing else changes (R181, R183, R187, R188; R100, R109). It rests on
choices of the spec and the model: log entries 12, 15, 16, 17. -/
def Obligations.StoreX : Prop :=
  ∀ (σ : State) (r : BitVec 4) (u : Bool) (mode a : BitVec 3) (de : Bool),
    let act := σ.cfg.aguMode.getD mode.toNat .unknown
    let m := if u then 4 else 2
    let p := σ.me.getA a
    let w := p.extractLsb' 0 16
    let stored := (List.range m).map fun j =>
      ({ addr := w + BitVec.ofNat 16 j, val := wp (σ.me.q (r ++ 0#1)) j, old := false } : FarWrite)
    Memory.wf σ.mem = true → de = σ.cfg.deDir → act ≠ .unknown → Reaches σ p m →
    ∃ τ, exec (.move9aX r u mode a de) σ = .next τ ∧
      (isFar σ.turn w = false →
        (∀ j < m, τ.xy (w + BitVec.ofNat 16 j) = wp (σ.me.q (r ++ 0#1)) j) ∧
        (∀ b, ¬bytesOf w m b → readByte τ.mem b = readByte σ.mem b) ∧ τ.me.farq = σ.me.farq) ∧
      (isFar σ.turn w = true → (∀ b, readByte τ.mem b = readByte σ.mem b) ∧ τ.me.farq = σ.me.farq ++ stored) ∧
      τ.me.getA a = p.extractLsb' 16 16 ++ (w + gain act m (σ.me.getI a)) ∧
      (∀ c, c ≠ a → τ.me.getA c = σ.me.getA c) ∧
      τ = { σ.onMe fun k => { k with a := τ.me.a, farq := τ.me.farq } with mem := τ.mem }

/-- The Y move of formats 9a and 9b: a load through AT into register 0, with the offset DT; when the last instruction
changed SR.YM, only without modification (R182, R183, R187, R190; 70_reset_and_hazards.md R532). It rests on choices
of the spec and the model: log entries 10, 12, 15, 16, 17. -/
def Obligations.LoadY : Prop :=
  ∀ (σ : State) (code : BitVec 2) (u : Bool) (x : Instr),
    let act := σ.cfg.atMode.getD code.toNat .unknown
    let m := if u then 4 else 2
    let p := σ.me.ptrT
    let w := p.extractLsb' 0 16
    let seen := σ.viewFor w
    x = .move9aY code u ∨ x = .move9bY code u → act ≠ .unknown → act = .noUpdate ∨ ymFresh σ = false → Reaches σ p m →
    ∃ τ, exec x σ = .next τ ∧
      (∀ j < m, wp (τ.me.q 0) j ∈ readable seen (w + BitVec.ofNat 16 j)) ∧
      τ.me.ptrT = p.extractLsb' 16 16 ++ (w + gain act m σ.me.dt) ∧
      (∀ b, readByte τ.mem b = readByte seen.mem b) ∧
      (isFar σ.turn w = false ∨ σ.me.inIsr = false → seen = σ) ∧
      (∀ n : BitVec 7, (unitMask 0 (if u then .w128 else .w64)).getLsbD n.toNat = false →
        τ.me.unit n = σ.me.unit n) ∧
      τ = { seen.onMe fun k => { k with rows := τ.me.rows, ptrT := τ.me.ptrT } with free := τ.free }

/-- Where a memory move is refused: a Y move with modification when the last instruction changed SR.YM; an unknown
mode code, then high pointer bits, a page crossing, a segment without its clock (R183; 10_state.md R35; 20_memory.md
R103, R121; 70_reset_and_hazards.md R532). It rests on choices of the spec and the model: log entries 12, 15, 29, 33.
-/
def Obligations.MemoryMoveStops : Prop :=
  ∀ (σ : State) (u : Bool) (p : Word) (act : Action) (x : Instr) (code : BitVec 2),
    let m := if u then 4 else 2
    let w := p.extractLsb' 0 16
    let yMove : Prop := x = .move9aY code u ∨ x = .move9bY code u
    let yAct := σ.cfg.atMode.getD code.toNat .unknown
    (yMove → yAct ≠ .noUpdate → ymFresh σ = true → exec x σ = .refused .ymHazard) ∧
    ((∃ r mode a de, x = .move9aX r u mode a de ∧ p = σ.me.getA a ∧ act = σ.cfg.aguMode.getD mode.toNat .unknown) ∨
        (yMove ∧ p = σ.me.ptrT ∧ act = yAct ∧ (act = .noUpdate ∨ ymFresh σ = false)) →
      (act = .unknown → exec x σ = .refused .unknownMode) ∧
      (act ≠ .unknown → p.extractLsb' 16 16 ≠ 0 → exec x σ = .refused .pointerHigh) ∧
      (act ≠ .unknown → p.extractLsb' 16 16 = 0 → 0x2000 < w.toNat % 0x2000 + m → exec x σ = .refused .pageCross) ∧
      (act ≠ .unknown → p.extractLsb' 16 16 = 0 → w.toNat % 0x2000 + m ≤ 0x2000 →
        σ.clk (if w.getLsbD 15 then .dsp1 else .dsp0) = false → exec x σ = .refused .clockOff))

/-! ### Register moves -/

/-- Moves from a control register, in its own width (R191, R192, R194, R196; 10_state.md R47, R50): the 16-bit
registers, the low half of A[n] and AT, and the 32-bit registers. It rests on choices of the spec and the model: log
entries 12, 14. -/
def Obligations.MoveFromControl : Prop :=
  ∀ (σ : State) (rr : Reg) (de : Bool) (n : BitVec 3), de ≠ σ.cfg.deDir →
    let k := σ.me
    (∀ p ∈ [(CReg.i n, k.i[n.toNat]), (.m n, k.m[n.toNat]), (.it, k.it), (.mt, k.mt), (.dt, k.dt), (.ivar, k.ivar),
        (.a n, (k.a[n.toNat]).extractLsb' 0 16), (.ptrT, k.ptrT.extractLsb' 0 16), (.dcsr, k.dcsr), (.sr, k.sr),
        (.idr, if σ.turn = .dsp0 then 0x0108 else 0x1108), (.arbr, k.arbr), (.sar n, k.sars[n.toNat]), (.cntr, k.cntr),
        (.pdnr, k.pdnr)],
      YieldsH (.move9dRC rr p.1 false de) σ rr (· = p.2)) ∧
    (∀ p ∈ [(CReg.efr, σ.efr), (.irqr, k.irqr), (.imaskr, k.imaskr), (.tmr, k.tmr), (.sfr, k.sfr)],
      YieldsL (.move9dRC rr p.1 false de) σ rr (· = p.2)) ∧
    (∀ p ∈ [(CReg.a n, k.a[n.toNat]), (.ptrT, k.ptrT)], YieldsL (.move9dRC rr p.1 true de) σ rr (· = p.2))

/-- Moves to a control register: the exact next state, so all else is unchanged. A 16-bit move into A[n] or AT keeps
bits 31..16; IDR keeps its value; every bit of SR is written (R191, R192, R194, R196, R200). It rests on choices of
the spec and the model: log entries 12, 14. -/
def Obligations.MoveToControl : Prop :=
  ∀ (σ : State) (rr : Reg) (de : Bool) (n : BitVec 3), de = σ.cfg.deDir →
    let h := σ.me.h rr
    let l := σ.me.l rr
    (∀ p ∈ ([(CReg.i n, fun k => { k with i := k.i.set n.toNat h }), (.m n, fun k => { k with m := k.m.set n.toNat h }),
        (.it, fun k => { k with it := h }), (.mt, fun k => { k with mt := h }), (.dt, fun k => { k with dt := h }),
        (.ivar, fun k => { k with ivar := h }), (.sr, fun k => { k with sr := h }), (.idr, fun k => k),
        (.sar n, fun k => { k with sars := k.sars.set n.toNat h }), (.cntr, fun k => { k with cntr := h }),
        (.pdnr, fun k => { k with pdnr := h }), (.imaskr, fun k => { k with imaskr := l }),
        (.tmr, fun k => { k with tmr := l }), (.sfr, fun k => { k with sfr := l }),
        (.a n, fun k => { k with a := k.a.set n.toNat ((k.a[n.toNat]).extractLsb' 16 16 ++ h) }),
        (.ptrT, fun k => { k with ptrT := k.ptrT.extractLsb' 16 16 ++ h })] : List (CReg × (Core → Core))),
      exec (.move9dRC rr p.1 false de) σ = .next (σ.onMe p.2)) ∧
    (∀ p ∈ ([(CReg.a n, fun k => { k with a := k.a.set n.toNat l }), (.ptrT, fun k => { k with ptrT := l })] :
        List (CReg × (Core → Core))),
      exec (.move9dRC rr p.1 true de) σ = .next (σ.onMe p.2))

/-- Moves to DCSR, IRQR, ARBR: with no 1 in a reserved bit the register takes the value (DCSR: RUN, STP, BRK, SE, PI;
WAIT keeps its own; a start clears Cnt_RUN); with a 1 in a reserved bit the move is refused (R194, R200; 10_state.md
R40, R52, R55, R62, R69). It rests on choices of the spec and the model: log entries 12, 28. -/
def Obligations.MoveToReservedControl : Prop :=
  ∀ (σ : State) (rr : Reg) (de : Bool), de = σ.cfg.deDir →
    let h := σ.me.h rr
    let l := σ.me.l rr
    (h &&& 0xBFE0 = 0 → ∃ τ, exec (.move9dRC rr .dcsr false de) σ = .next τ ∧
      (∀ j < 16, τ.me.dcsr.getLsbD j = if j = 4 then σ.me.dcsr.getLsbD 4 else
        if j = 14 ∨ j < 4 then h.getLsbD j else false) ∧
      τ = σ.onMe fun k => { k with dcsr := τ.me.dcsr, cntRun := if h.getLsbD 14 && !k.run then 0 else k.cntRun }) ∧
    (h &&& 0xBFE0 ≠ 0 → exec (.move9dRC rr .dcsr false de) σ = .refused .reservedBit) ∧
    (l &&& 0x0CFFFFF0 = 0 →
      exec (.move9dRC rr .irqr false de) σ = .next (σ.onMe fun k => { k with irqr := l })) ∧
    (l &&& 0x0CFFFFF0 ≠ 0 → exec (.move9dRC rr .irqr false de) σ = .refused .reservedBit) ∧
    (h &&& 0xC0C8 = 0 →
      exec (.move9dRC rr .arbr false de) σ = .next (σ.onMe fun k => { k with arbr := h })) ∧
    (h &&& 0xC0C8 ≠ 0 → exec (.move9dRC rr .arbr false de) σ = .refused .reservedBit)

/-- The accumulator moves of format 9d in both directions: AC[n].D for even n with L = 0, AC[n].Q for n a multiple of
4 with an even register with L = 1 (R195; 10_state.md R29). It rests on choices of the spec and the model: log entries
12, 28. -/
def Obligations.MoveAccumulatorViews : Prop :=
  ∀ (σ : State) (rr : Reg) (de : Bool) (j : BitVec 3) (q : BitVec 2),
    let ac (n : Nat) : Word := σ.me.acc.toList.getD n 0
    (de ≠ σ.cfg.deDir →
      YieldsD (.move9dRC rr (.ac (j ++ 0#1)) false de) σ rr
        (· = ac (2 * j.toNat + 1) ++ ac (2 * j.toNat)) ∧
      (quadOk rr = true → YieldsQ (.move9dRC rr (.ac (q ++ 0#2)) true de) σ rr
        (· = ac (4 * q.toNat + 3) ++ ac (4 * q.toNat + 2) ++ ac (4 * q.toNat + 1) ++ ac (4 * q.toNat)))) ∧
    (de = σ.cfg.deDir →
      (∃ τ, exec (.move9dRC rr (.ac (j ++ 0#1)) false de) σ = .next τ ∧ τ.me.acc64 j = σ.me.d rr ∧
        Frame σ τ 0 (accMask j) 0) ∧
      (quadOk rr = true → ∃ τ, exec (.move9dRC rr (.ac (q ++ 0#2)) true de) σ = .next τ ∧
        τ.me.acc64 (q ++ 0#1) = (σ.me.q rr).extractLsb' 0 64 ∧
        τ.me.acc64 (q ++ 1#1) = (σ.me.q rr).extractLsb' 64 64 ∧
        Frame σ τ 0 (accMask (q ++ 0#1) ||| accMask (q ++ 1#1)) 0))

/-- XBUF: an access that its flag allows (or any, outside the synchronous mode) moves 64 bits and sets EFR[k] to its
type; in the synchronous mode a write with EFR[k] = 1 and a read with EFR[k] = 0 wait: DCSR.WAIT is set and the move is
held, on its own as format 9d with NOPs, and inside an instruction with other parts as that whole instruction, none of
whose parts has any effect; with DSP0's clock off the access is refused (R193; 20_memory.md R113..R118, R121). It rests
on choices of the spec and the model: log entries 12, 18, 33. -/
def Obligations.ExchangeBuffer : Prop :=
  ∀ (σ : State) (rr : Reg) (de : Bool) (k : BitVec 5),
    let toX : Bool := de == σ.cfg.deDir
    let x : Instr := .move9dRC rr (.x k) false de
    let waits : Prop := σ.synwork = true ∧ σ.efr.getLsbD k.toNat = toX
    (σ.clk0 = true → ¬waits → toX = false →
      exec x σ = .next { σ.onMe (fun c => c.setD rr σ.xbuf[k.toNat]) with efr := setBit σ.efr k.toNat false }) ∧
    (σ.clk0 = true → ¬waits → toX = true →
      exec x σ = .next { σ with xbuf := σ.xbuf.set k.toNat (σ.me.d rr), efr := setBit σ.efr k.toNat true }) ∧
    (σ.clk0 = true → waits →
      exec x σ = .next (σ.onMe fun c =>
        { c with dcsr := setBit c.dcsr 4 true, held := some (.bundle (.f9d .nop .nopB rr (.x k) false de)) }) ∧
      ∀ (op1 op2 : Instr) (g : Gathered),
        let b : Bundle := .f9d op1 op2 rr (.x k) false de
        σ.me.bd = false → gather σ b.parts = .ok g → conflictOf σ b g = none →
        runBundle b σ = .next (σ.onMe fun c => { c with dcsr := setBit c.dcsr 4 true, held := some (.bundle b) })) ∧
    (σ.clk0 = false → exec x σ = .refused .clockOff)

/-- A write of DSTART by core i: StartDMA(k) for the bits 3..0, IRQR bit 24 + i of DSP0 for bit 24 and of DSP1 for bit
25; nothing is stored; a 1 in a reserved bit is refused (R199; 60_exceptions.md R476; 10_state.md R51). It rests on
choices of the spec and the model: log entries 12, 20, 28. -/
def Obligations.StartDma : Prop :=
  ∀ (σ : State) (rr : Reg) (de : Bool), de = σ.cfg.deDir →
    let v := σ.me.l rr
    let i : Nat := if σ.turn = .dsp0 then 0 else 1
    (v &&& 0xFCFFFFF0 = 0 → ∃ τ, exec (.move9dRC rr .efr false de) σ = .next τ ∧
      τ.dmaStarts = σ.dmaStarts ++ ([0, 1, 2, 3] : List (BitVec 2)).filter (fun k => v.getLsbD k.toNat) ∧
      (∀ j < 32, τ.core0.irqr.getLsbD j = (σ.core0.irqr.getLsbD j || (v.getLsbD 24 && j == 24 + i))) ∧
      (∀ j < 32, τ.core1.irqr.getLsbD j = (σ.core1.irqr.getLsbD j || (v.getLsbD 25 && j == 24 + i))) ∧
      τ = { σ with dmaStarts := τ.dmaStarts, core0 := { σ.core0 with irqr := τ.core0.irqr },
                   core1 := { σ.core1 with irqr := τ.core1.irqr } }) ∧
    (v &&& 0xFCFFFFF0 ≠ 0 → exec (.move9dRC rr .efr false de) σ = .refused .reservedBit)

/-- CCR: a read gives its value and remembers it; a write of a value that was read restores it, C and V with it; a
write of any other value is refused (R194). It rests on choices of the spec and the model: log entries 12, 13. -/
def Obligations.SaveRestoreCcr : Prop :=
  ∀ (σ : State) (rr : Reg) (de : Bool),
    (de ≠ σ.cfg.deDir → ∃ τ, exec (.move9dRC rr .ccr false de) σ = .next τ ∧ τ.me.h rr = σ.me.ccr ∧
      σ.me.ccr ∈ τ.me.ccrSeen ∧ (∀ v ∈ σ.me.ccrSeen, v ∈ τ.me.ccrSeen) ∧
      (∀ u : BitVec 7, (unitMask rr .w16).getLsbD u.toNat = false → τ.me.unit u = σ.me.unit u) ∧
      τ = σ.onMe fun k => { k with rows := τ.me.rows, ccrSeen := τ.me.ccrSeen }) ∧
    (de = σ.cfg.deDir → σ.me.h rr ∈ σ.me.ccrSeen →
      exec (.move9dRC rr .ccr false de) σ = .next (σ.onMe fun k => { k with ccr := k.h rr })) ∧
    (de = σ.cfg.deDir → σ.me.h rr ∉ σ.me.ccrSeen → exec (.move9dRC rr .ccr false de) σ = .refused .ccrValue)

/-! ### Interrupts -/

/-- RTI with the condition "always": the top of the stack goes to the pc and in_isr is cleared, nothing else; on an
empty stack DCSR.SE is set and the core may not go on; with another condition it is refused
(41_control_and_changed_results.md R211, R220). It rests on choices of the spec and the model: log entries 12, 21, 22.
-/
def Obligations.ReturnFromInterrupt : Prop :=
  ∀ (σ : State) (cc : BitVec 4),
    (cc = σ.cfg.ccAlways → ∀ p rest, σ.me.pcstack = p :: rest →
      exec (.rti cc) σ = .next (σ.onMe fun k => { k with pc := p, pcstack := rest, inIsr := false })) ∧
    (cc = σ.cfg.ccAlways → σ.me.pcstack = [] →
      exec (.rti cc) σ = .next (σ.onMe fun k => { k with dcsr := setBit k.dcsr 1 true, stackErr := true })) ∧
    (cc ≠ σ.cfg.ccAlways → exec (.rti cc) σ = .refused .rtiCondition)

/-- Interrupt entry with room on the stack: RUN becomes 1, the pc is pushed, the pc becomes IVAR, in_isr becomes 1;
IRQR stays, or under CFG.IRQR_AUTOCLEAR loses one pending bit; IMASKR, SR, CCR, the register file, the accumulators,
the pointers, memory and the other core stay (R212; 60_exceptions.md R471..R473, R494). It rests on choices of the
spec and the model: log entry 21. -/
def Obligations.InterruptEntry : Prop :=
  ∀ σ : State, σ.me.pending ≠ 0 → σ.me.ivar.toNat ≤ 0x1FFF → σ.me.pcstack.length < σ.cfg.stackDepth →
    ∃ τ, takeInterrupt σ = .next τ ∧
      τ.me.run = true ∧ (∀ j, j ≠ 14 → τ.me.dcsr.getLsbD j = σ.me.dcsr.getLsbD j) ∧
      τ.me.pcstack = σ.me.pc :: σ.me.pcstack ∧ τ.me.pc = σ.me.ivar ∧ τ.me.inIsr = true ∧
      (σ.cfg.irqrAutoclear = false → τ.me.irqr = σ.me.irqr) ∧
      (σ.cfg.irqrAutoclear = true → ∃ k < 32, σ.me.pending.getLsbD k = true ∧
        ∀ j < 32, τ.me.irqr.getLsbD j = (σ.me.irqr.getLsbD j && j != k)) ∧
      τ.me.farq.map (fun e => (e.addr, e.val)) = σ.me.farq.map (fun e => (e.addr, e.val)) ∧
      τ = { σ.onMe (fun k => { k with dcsr := τ.me.dcsr, cntRun := τ.me.cntRun, irqr := τ.me.irqr, pc := τ.me.pc,
                                      pcstack := τ.me.pcstack, inIsr := true, farq := τ.me.farq, hist := [] }) with
            free := τ.free }

/-- A step of a core takes the interrupt exactly when the environment takes it and R470 allows it: some unmasked
request, not in a handler, no held XBUF access, no breakpoint stop first; it stops at a full stack with SE, and is
refused at an IVAR outside PRAM. Otherwise a running core runs its next instruction and a stopped one leaves the state
as it is. A held access is tested again, whatever is pending. A core that has had a stack error and would run or take
an interrupt is refused (60_exceptions.md R470, R472, R493, R494; 41_control_and_changed_results.md R220; 10_state.md
R37; 70_reset_and_hazards.md R527). It rests on choices of the spec and the model: log entries 21, 22, 36. -/
def Obligations.InterruptAcceptance : Prop :=
  ∀ (σ : State) (take : Bool), σ.clk σ.turn = true →
    let may : Prop := take = true ∧ σ.me.irqr &&& σ.me.imaskr ≠ 0 ∧ σ.me.inIsr = false
    (σ.me.stackErr = false →
      (∀ x, σ.me.held = some x → coreStep take σ = runInsn x σ) ∧
      (σ.me.held = none → σ.me.sarMatch = false → σ.me.dbSarMatch = false →
        (may → coreStep take σ = takeInterrupt σ ∧
          (0x1FFF < σ.me.ivar.toNat → coreStep take σ = .refused .pcOutsidePram) ∧
          (σ.me.ivar.toNat ≤ 0x1FFF → σ.cfg.stackDepth ≤ σ.me.pcstack.length →
            ∃ τ, coreStep take σ = .next τ ∧ τ.me.dcsr.getLsbD 1 = true ∧ τ.me.stackErr = true ∧
              τ.me.pc = σ.me.pc ∧ τ.me.pcstack = σ.me.pcstack)) ∧
        (¬may → (σ.me.stopped = false → coreStep take σ = runNext σ) ∧
          (σ.me.stopped = true → coreStep take σ = .next σ)))) ∧
    (σ.me.stackErr = true → σ.me.stopped = false ∨ (may ∧ σ.me.held = none) →
      coreStep take σ = .refused .stackError)

/-! ### Whole instructions and steps -/

/-- When PRAM at the pc holds the words of an instruction whose slots hold operations of their slot, whatever its
operands (so of every well-formed one), a core's step runs that instruction; and a step of the cluster with an empty
schedule and no pending far write is that step, the turn then passing on. It rests on choices of the spec and the
model: log entries 5, 15. -/
def Obligations.StepRunsDecoded : Prop :=
  ∀ (σ : State) (b : Bundle), b.slotsOk = true →
    σ.clk σ.turn = true → σ.me.stackErr = false → σ.me.held = none → σ.me.stopped = false →
    σ.me.sarMatch = false → σ.me.dbSarMatch = false → σ.me.accepts = false → σ.me.baseCode = [] →
    σ.me.pc.toNat < 0x1FFF →
    σ.pram σ.turn σ.me.pc.toNat = (encode σ.cfg.opRts b).1 →
    (isWide (encode σ.cfg.opRts b).1 = true → σ.pram σ.turn (σ.me.pc.toNat + 1) = (encode σ.cfg.opRts b).2) →
    coreStep true σ = runBundle b σ ∧
    (σ.sched = [] → σ.me.farq = [] →
      step σ = match runBundle b σ with
        | .next τ => .next τ.nextTurn
        | .fault r => .fault r
        | .refused r => .refused r)

/-- Running an instruction whose parts all complete and do not conflict: every part alone gives what its meaning
`exec` gives, and the next state is their writes made together, all of them, but for the pc, which moves by two words
(or is where RTI returned), and the bookkeeping of an executed instruction (the hazard history, no held access, WAIT =
0, no breakpoint stop). With SR.BD = 1 only format 9d with NOPs in both slots and a move of a value with BD = 0 into
SR runs so; every other instruction is refused (30_encoding.md R132, R174; 41_control_and_changed_results.md R211;
70_reset_and_hazards.md R534, R535). It rests on choices of the spec and the model: log entries 27, 29. -/
def Obligations.BundleRunsItsParts : Prop :=
  ∀ (σ : State) (b : Bundle),
    let allowed : Prop := σ.me.bd = false ∨ ∃ op1 op2 rr l, b = .f9d op1 op2 rr .sr l σ.cfg.deDir ∧
      (σ.me.h rr).getLsbD 10 = false ∧ op1 ∈ [Instr.nop, .nopHi] ∧ op2 ∈ [Instr.nopB, .nopBMid, .nopBHi]
    (¬allowed → runBundle b σ = .refused .blockingDisabled) ∧
    ∀ g : Gathered, allowed → gather σ b.parts = .ok g → conflictOf σ b g = none → blocked g.writes = false →
      let ρ := commitAll g.writes σ
      g.map (·.1) = b.parts ∧ (∀ p ∈ g, exec p.1 σ = .next (commitAll p.2 σ)) ∧
      (∃ pc, runBundle b σ = .next (ρ.onMe fun k =>
          { k with pc := pc, hist := (traceOf σ ρ g :: k.hist).take 3, held := none, dcsr := setBit k.dcsr 4 false,
                   bpAt := none, dbBpAt := none }) ∧
        ((∀ cc, b ≠ .rti cc) → pc = σ.me.pc + 2) ∧
        (∀ cc p rest, b = .rti cc → σ.me.pcstack = p :: rest → pc = p) ∧
        (∀ cc, b = .rti cc → σ.me.pcstack = [] → pc = σ.me.pc))

/-- All parts read the state before the instruction: a 16-bit unit of the register file that only one part touches
ends as that part alone leaves it, and a unit no part touches keeps its value (30_encoding.md R174). It rests on
choices of the spec and the model: log entry 27. -/
def Obligations.PartsReadOldState : Prop :=
  ∀ (σ τ : State) (b : Bundle) (g : Gathered) (u : BitVec 7), gather σ b.parts = .ok g → blocked g.writes = false →
    runBundle b σ = .next τ →
    ((∀ p ∈ g, (unionOf Write.units p.2).getLsbD u.toNat = false) → τ.me.unit u = σ.me.unit u) ∧
    (∀ (g1 g2 : Gathered) (x : Instr) (ws : List Write) (ρ : State), g = g1 ++ (x, ws) :: g2 →
      (∀ p ∈ g1 ++ g2, (unionOf Write.units p.2).getLsbD u.toNat = false) → exec x σ = .next ρ →
      τ.me.unit u = ρ.me.unit u)

/-- A breakpoint at a pc of PRAM stops the core before the instruction: BRK set and RUN cleared for SAR, dbBRK set and
dbRUN cleared for dbSAR, each by its own run bit; the pc and everything else stay. A value above 0x1FFF stops nothing:
at such a pc a running core is refused (60_exceptions.md R486, R487; 70_reset_and_hazards.md R527). It rests on
choices of the spec and the model: log entries 30, 36. -/
def Obligations.BreakpointStops : Prop :=
  ∀ (σ : State) (take : Bool), σ.clk σ.turn = true → σ.me.stackErr = false → σ.me.held = none →
    σ.me.bpAt = none → σ.me.dbBpAt = none →
    let k := σ.me
    let reg : Prop := k.run = true ∧ k.pc.toNat ≤ 0x1FFF ∧ k.pc ∈ k.sars.toList
    let dbg : Prop := k.dbRun = true ∧ k.pc.toNat ≤ 0x1FFF ∧ k.pc ∈ k.dbSars.toList
    (k.stopped = false → 0x1FFF < k.pc.toNat → coreStep false σ = .refused .pcOutsidePram) ∧
    (reg ∨ dbg →
    ∃ τ, coreStep take σ = .next τ ∧
      (reg → τ.me.run = false ∧ τ.me.dcsr.getLsbD 2 = true ∧
        ∀ j, j ≠ 14 → j ≠ 2 → τ.me.dcsr.getLsbD j = k.dcsr.getLsbD j) ∧
      (¬reg → τ.me.dcsr = k.dcsr) ∧
      (dbg → τ.me.dbRun = false ∧ τ.me.dbDcsr.getLsbD 2 = true ∧
        ∀ j, j ≠ 14 → j ≠ 2 → τ.me.dbDcsr.getLsbD j = k.dbDcsr.getLsbD j) ∧
      (¬dbg → τ.me.dbDcsr = k.dbDcsr) ∧
      τ = σ.onMe fun k => { k with dcsr := τ.me.dcsr, dbDcsr := τ.me.dbDcsr, bpAt := τ.me.bpAt, dbBpAt := τ.me.dbBpAt })

/-! ### State and memory -/

/-- The four views alias one register file: an even `.L` is two 16-bit registers, an even `.D` two `.L`, a `.Q` two
`.D`; a write of a view (`.Q` of an even register) reads back, and 16-bit units outside the view keep their value
(10_state.md R23..R26). It rests on choices of the spec and the model: log entry 14. -/
def Obligations.RegisterViews : Prop :=
  ∀ (k : Core) (n : Reg),
    (quadOk n = true → k.l n = k.h (n + 1) ++ k.h n ∧ k.d n = k.l (n + 1) ++ k.l n ∧ k.q n = k.d (n + 1) ++ k.d n) ∧
    (∀ v, (k.setH n v).h n = v ∧ ∀ u : BitVec 7, (unitMask n .w16).getLsbD u.toNat = false →
      (k.setH n v).unit u = k.unit u) ∧
    (∀ v, (k.setL n v).l n = v ∧ ∀ u : BitVec 7, (unitMask n .w32).getLsbD u.toNat = false →
      (k.setL n v).unit u = k.unit u) ∧
    (∀ v, (k.setD n v).d n = v ∧ ∀ u : BitVec 7, (unitMask n .w64).getLsbD u.toNat = false →
      (k.setD n v).unit u = k.unit u) ∧
    (quadOk n = true → ∀ v, (k.setQ n v).q n = v ∧ ∀ u : BitVec 7, (unitMask n .w128).getLsbD u.toNat = false →
      (k.setQ n v).unit u = k.unit u)

/-- A word of XYRAM or PRAM written reads back, every other word of XYRAM and of both PRAMs keeps its value (the windows
are apart, 20_memory.md R92, R94, R100), and the canonical form is kept (the model's representation, log entry 3). -/
def Obligations.MemoryReadAfterWrite : Prop :=
  ∀ (σ : State) (w : Half) (c : CoreId) (p : Nat) (v : Word), Memory.wf σ.mem = true → p < 0x2000 →
    let τ := σ.setXy w v
    let ρ := σ.setPram c p v
    (τ.xy w = v ∧ (∀ w', w' ≠ w → τ.xy w' = σ.xy w') ∧ (∀ c' q, q < 0x2000 → τ.pram c' q = σ.pram c' q) ∧
      Memory.wf τ.mem = true) ∧
    (ρ.pram c p = v ∧ (∀ c' q, q < 0x2000 → ¬(c' = c ∧ q = p) → ρ.pram c' q = σ.pram c' q) ∧
      (∀ w', ρ.xy w' = σ.xy w') ∧ Memory.wf ρ.mem = true)

/-- Far writes land in order: the oldest pending far write of a core is the one that lands, and only then is it
visible in memory (20_memory.md R109). It rests on choices of the spec and the model: log entry 16. -/
def Obligations.FarWritesInOrder : Prop :=
  ∀ (σ : State) (c : CoreId) (e : FarWrite) (rest : List FarWrite), Memory.wf σ.mem = true →
    (σ.core c).farq = e :: rest →
    σ.clk c.other = true → ∃ τ, runEvent (.drain c) σ = .next τ ∧ τ.xy e.addr = e.val ∧
      (∀ b, ¬bytesOf e.addr 1 b → readByte τ.mem b = readByte σ.mem b) ∧ (τ.core c).farq = rest ∧
      τ = { σ.onCore c (fun k => { k with farq := rest }) with mem := τ.mem }

/-- QSTR_DSP mirrors PI, SE, BRK, STP of both cores at bits 3..0 and 11..8 and the common WAIT at bit 28, all other
bits 0, and the request to the CPU is its conjunction with MASKR_DSP (10_state.md R65; 60_exceptions.md R480, R483).
It rests on choices of the spec and the model: log entry 18. -/
def Obligations.FlagsToCpu : Prop :=
  ∀ σ : State,
    (∀ j < 4, σ.qstr.getLsbD j = σ.core0.dcsr.getLsbD j ∧ σ.qstr.getLsbD (8 + j) = σ.core1.dcsr.getLsbD j) ∧
    σ.qstr.getLsbD 28 = (σ.core0.dcsr.getLsbD 4 && σ.core1.dcsr.getLsbD 4) ∧
    (∀ j < 32, ¬(j < 4 ∨ (8 ≤ j ∧ j < 12) ∨ j = 28) → σ.qstr.getLsbD j = false) ∧
    (σ.cpuRequest = true ↔ ∃ j < 32, σ.qstr.getLsbD j = true ∧ σ.maskr.getLsbD j = true) ∧
    (busRead 0x18481004 σ = .next { σ with busData := σ.qstr.setWidth 64 })

/-! ### Invariant, reset, encoding -/

/-- Every step keeps the invariant `State.Inv`: canonical memory, reserved bits 0, WAIT = a held access, the stack
within its depth, pending far writes far, the clocks not (0,1) (10_state.md R42, R69; 20_memory.md R109;
60_exceptions.md R492; 41_control_and_changed_results.md R220). It rests on choices of the spec and the model: log
entries 3, 16, 22, 28, 33. -/
def Obligations.StepKeepsInvariant : Prop :=
  ∀ σ τ : State, σ.Inv → step σ = .next τ → τ.Inv

/-- The invariant holds at reset. The values of the open parameters (the stack depth), the clocks on, the empty PC
stack and the memory with nothing listed are choices of the spec and the model (log entries 1, 2, 3). -/
def Obligations.ResetInvariant : Prop := State.reset.Inv

/-- The reset values that the spec states (10_state.md R71; 70_reset_and_hazards.md R521). It rests on choices of the
spec and the model: log entries 21, 22. -/
def Obligations.ResetValues : Prop :=
  let σ := State.reset
  (∀ c, (σ.core c).acc = Vector.replicate 16 0 ∧ (σ.core c).ivar = 0x1F00 ∧ (σ.core c).dcsr = 0 ∧ (σ.core c).dd = false ∧
    (σ.core c).bd = false ∧ (σ.core c).irqr = 0 ∧ (σ.core c).imaskr = 0 ∧ (σ.core c).tmr = 0 ∧
    (σ.core c).arbr = 0x0F01 ∧ (σ.core c).dbDcsr = 0 ∧ (σ.core c).dbSars = Vector.replicate 8 0xFFFF ∧
    (σ.core c).dbCntr = 0 ∧ (σ.core c).cntRun = 0 ∧ (σ.core c).inIsr = false ∧ (σ.core c).pcstack = []) ∧
  σ.core0.a = Vector.replicate 8 0x00000000 ∧ σ.core1.a = Vector.replicate 8 0x00008000 ∧
  σ.core0.ptrT = 0x00004000 ∧ σ.core1.ptrT = 0x0000C000 ∧ σ.efr = 0 ∧ σ.maskr = 0 ∧ σ.qstr = 0 ∧ σ.csr = 0

/-- Decoding the words of any instruction whose slots hold operations of their slot gives the instruction back, every
operand at every value (30_encoding.md R158..R169). It rests on choices of the spec and the model: log entries 12, 28.
-/
def Obligations.DecodeOfEncode : Prop :=
  ∀ (opRts : BitVec 7) (b : Bundle), b.slotsOk = true → decode opRts (encode opRts b).1 (encode opRts b).2 = .ok b

/-- Words written out from the spec's encodings decode to the instructions they stand for, and an empty OP1 code, OP3
= 10, a reserved RC code to none (95_test_vectors.md V1, V2, V5..V7, V9..V12; 30_encoding.md R164..R166, R169). It
rests on choices of the spec and the model: log entries 12, 28. -/
def Obligations.DecodeWords : Prop :=
  decode 0x30 0x00001780 0x00001040 = .ok (.f9b .nop .nopB 2 0 4 false false) ∧
  decode 0x30 0x118967D1 0x40D4BB46 = .ok (.f9b (.andd 2 4 6) (.mac81 8 10 3) 12 1 14 true true) ∧
  decode 0x30 0x11889FA5 0x4414962A = .ok (.f9a (.a8 2 4 6) (.mfa81 8 10 16) 9 true 1 1 3 false) ∧
  decode 0x30 0x1189FF82 0x220C0AE1 = .ok (.f9d (.addd 2 4 6) (.lsldi 4 6 8) 31 .idr false false) ∧
  decode 0x30 0x00002F80 0x00008DC0 = .ok (.f9d .nop .nopB 5 (.a 3) true true) ∧
  decode 0x30 0x00003780 0x00011DC0 = .ok (.f9d .nop .nopB 6 (.x 7) false true) ∧
  decode 0x30 0x03150FDA 0x041C0FE6 = .ok (.f9d (.trd 10 12) (.trdB 14 16) 1 .efr false true) ∧
  decode 0x30 0x11894FE0 0xF80C12F0 = .ok (.f9d (.cmpn4 2 4 6) (.btstdi 31 6) 9 .irqr false false) ∧
  decode 0x30 0xF55E69B0 0 = .ok (.rti 0xF) ∧
  decode 0x30 0x000007A0 0x000000C0 = .error .reservedOp1 ∧ decode 0x30 0x00000780 0x00000001 = .error .reservedOp2 ∧
  decode 0x30 0x00000780 0x00000080 = .error .reservedOp3 ∧ decode 0x30 0x00000780 0x000070C0 = .error .reservedRc
end

