-- ==== Sys2Proof/Laws/State.lean ====
section
/-! SUPPORT. The fields of the state under each update: one lemma per field per update, so that no later proof unfolds a
record update. -/

namespace Sys2Proof.Machine

@[simp] theorem State.core_dsp0 (σ : State) : σ.core .dsp0 = σ.core0 := rfl
@[simp] theorem State.core_dsp1 (σ : State) : σ.core .dsp1 = σ.core1 := rfl
@[simp] theorem State.core_setCore_same (σ : State) (c : CoreId) (k : Core) : (σ.setCore c k).core c = k := by
  cases c <;> rfl
@[simp] theorem State.core_setCore_other (σ : State) (c : CoreId) (k : Core) :
    (σ.setCore c k).core c.other = σ.core c.other := by cases c <;> rfl
@[simp] theorem State.core_onCore_same (σ : State) (c : CoreId) (f : Core → Core) :
    (σ.onCore c f).core c = f (σ.core c) := by cases c <;> rfl
@[simp] theorem State.core_onCore_other (σ : State) (c : CoreId) (f : Core → Core) :
    (σ.onCore c f).core c.other = σ.core c.other := by cases c <;> rfl

@[simp] theorem State.cfg_setCore (σ : State) (c : CoreId) (k : Core) : (σ.setCore c k).cfg = σ.cfg := by
  cases c <;> rfl
@[simp] theorem State.cfg_onCore (σ : State) (c : CoreId) (f : Core → Core) : (σ.onCore c f).cfg = σ.cfg := by
  cases c <;> rfl
@[simp] theorem State.cfg_onMe (σ : State) (f : Core → Core) : (σ.onMe f).cfg = σ.cfg :=
  State.cfg_onCore σ σ.turn f
@[simp] theorem State.mem_setCore (σ : State) (c : CoreId) (k : Core) : (σ.setCore c k).mem = σ.mem := by
  cases c <;> rfl
@[simp] theorem State.mem_onCore (σ : State) (c : CoreId) (f : Core → Core) : (σ.onCore c f).mem = σ.mem := by
  cases c <;> rfl
@[simp] theorem State.mem_onMe (σ : State) (f : Core → Core) : (σ.onMe f).mem = σ.mem :=
  State.mem_onCore σ σ.turn f
@[simp] theorem State.xbuf_setCore (σ : State) (c : CoreId) (k : Core) : (σ.setCore c k).xbuf = σ.xbuf := by
  cases c <;> rfl
@[simp] theorem State.xbuf_onCore (σ : State) (c : CoreId) (f : Core → Core) : (σ.onCore c f).xbuf = σ.xbuf := by
  cases c <;> rfl
@[simp] theorem State.xbuf_onMe (σ : State) (f : Core → Core) : (σ.onMe f).xbuf = σ.xbuf :=
  State.xbuf_onCore σ σ.turn f
@[simp] theorem State.efr_setCore (σ : State) (c : CoreId) (k : Core) : (σ.setCore c k).efr = σ.efr := by
  cases c <;> rfl
@[simp] theorem State.efr_onCore (σ : State) (c : CoreId) (f : Core → Core) : (σ.onCore c f).efr = σ.efr := by
  cases c <;> rfl
@[simp] theorem State.efr_onMe (σ : State) (f : Core → Core) : (σ.onMe f).efr = σ.efr :=
  State.efr_onCore σ σ.turn f
@[simp] theorem State.maskr_setCore (σ : State) (c : CoreId) (k : Core) : (σ.setCore c k).maskr = σ.maskr := by
  cases c <;> rfl
@[simp] theorem State.maskr_onCore (σ : State) (c : CoreId) (f : Core → Core) : (σ.onCore c f).maskr = σ.maskr := by
  cases c <;> rfl
@[simp] theorem State.maskr_onMe (σ : State) (f : Core → Core) : (σ.onMe f).maskr = σ.maskr :=
  State.maskr_onCore σ σ.turn f
@[simp] theorem State.csr_setCore (σ : State) (c : CoreId) (k : Core) : (σ.setCore c k).csr = σ.csr := by
  cases c <;> rfl
@[simp] theorem State.csr_onCore (σ : State) (c : CoreId) (f : Core → Core) : (σ.onCore c f).csr = σ.csr := by
  cases c <;> rfl
@[simp] theorem State.csr_onMe (σ : State) (f : Core → Core) : (σ.onMe f).csr = σ.csr :=
  State.csr_onCore σ σ.turn f
@[simp] theorem State.clk0_setCore (σ : State) (c : CoreId) (k : Core) : (σ.setCore c k).clk0 = σ.clk0 := by
  cases c <;> rfl
@[simp] theorem State.clk0_onCore (σ : State) (c : CoreId) (f : Core → Core) : (σ.onCore c f).clk0 = σ.clk0 := by
  cases c <;> rfl
@[simp] theorem State.clk0_onMe (σ : State) (f : Core → Core) : (σ.onMe f).clk0 = σ.clk0 :=
  State.clk0_onCore σ σ.turn f
@[simp] theorem State.clk1_setCore (σ : State) (c : CoreId) (k : Core) : (σ.setCore c k).clk1 = σ.clk1 := by
  cases c <;> rfl
@[simp] theorem State.clk1_onCore (σ : State) (c : CoreId) (f : Core → Core) : (σ.onCore c f).clk1 = σ.clk1 := by
  cases c <;> rfl
@[simp] theorem State.clk1_onMe (σ : State) (f : Core → Core) : (σ.onMe f).clk1 = σ.clk1 :=
  State.clk1_onCore σ σ.turn f
@[simp] theorem State.turn_setCore (σ : State) (c : CoreId) (k : Core) : (σ.setCore c k).turn = σ.turn := by
  cases c <;> rfl
@[simp] theorem State.turn_onCore (σ : State) (c : CoreId) (f : Core → Core) : (σ.onCore c f).turn = σ.turn := by
  cases c <;> rfl
@[simp] theorem State.turn_onMe (σ : State) (f : Core → Core) : (σ.onMe f).turn = σ.turn :=
  State.turn_onCore σ σ.turn f
@[simp] theorem State.sched_setCore (σ : State) (c : CoreId) (k : Core) : (σ.setCore c k).sched = σ.sched := by
  cases c <;> rfl
@[simp] theorem State.sched_onCore (σ : State) (c : CoreId) (f : Core → Core) : (σ.onCore c f).sched = σ.sched := by
  cases c <;> rfl
@[simp] theorem State.sched_onMe (σ : State) (f : Core → Core) : (σ.onMe f).sched = σ.sched :=
  State.sched_onCore σ σ.turn f
@[simp] theorem State.busData_setCore (σ : State) (c : CoreId) (k : Core) : (σ.setCore c k).busData = σ.busData := by
  cases c <;> rfl
@[simp] theorem State.busData_onCore (σ : State) (c : CoreId) (f : Core → Core) : (σ.onCore c f).busData = σ.busData := by
  cases c <;> rfl
@[simp] theorem State.busData_onMe (σ : State) (f : Core → Core) : (σ.onMe f).busData = σ.busData :=
  State.busData_onCore σ σ.turn f
@[simp] theorem State.dmaStarts_setCore (σ : State) (c : CoreId) (k : Core) : (σ.setCore c k).dmaStarts = σ.dmaStarts := by
  cases c <;> rfl
@[simp] theorem State.dmaStarts_onCore (σ : State) (c : CoreId) (f : Core → Core) : (σ.onCore c f).dmaStarts = σ.dmaStarts := by
  cases c <;> rfl
@[simp] theorem State.dmaStarts_onMe (σ : State) (f : Core → Core) : (σ.onMe f).dmaStarts = σ.dmaStarts :=
  State.dmaStarts_onCore σ σ.turn f
@[simp] theorem State.free_setCore (σ : State) (c : CoreId) (k : Core) : (σ.setCore c k).free = σ.free := by
  cases c <;> rfl
@[simp] theorem State.free_onCore (σ : State) (c : CoreId) (f : Core → Core) : (σ.onCore c f).free = σ.free := by
  cases c <;> rfl
@[simp] theorem State.free_onMe (σ : State) (f : Core → Core) : (σ.onMe f).free = σ.free :=
  State.free_onCore σ σ.turn f

@[simp] theorem State.me_onMe (σ : State) (f : Core → Core) : (σ.onMe f).me = f σ.me := by
  simp [State.me, State.onMe]
@[simp] theorem State.onMe_onMe (σ : State) (f g : Core → Core) : (σ.onMe f).onMe g = σ.onMe fun k => g (f k) := by
  rcases σ with ⟨⟩; rename_i turn _ _ _ _; cases turn <;> rfl
@[simp] theorem State.other_onMe (σ : State) (f : Core → Core) :
    (σ.onMe f).core σ.turn.other = σ.core σ.turn.other := by simp [State.onMe]
theorem State.onMe_congr (σ : State) {f g : Core → Core} (h : f σ.me = g σ.me) : σ.onMe f = σ.onMe g := by
  simp only [State.me] at h
  simp [State.onMe, State.onCore, h]

@[simp] theorem Core.acc_setRow (k : Core) (r : BitVec 4) (v : Quad) : (k.setRow r v).acc = k.acc := rfl
@[simp] theorem Core.a_setRow (k : Core) (r : BitVec 4) (v : Quad) : (k.setRow r v).a = k.a := rfl
@[simp] theorem Core.ptrT_setRow (k : Core) (r : BitVec 4) (v : Quad) : (k.setRow r v).ptrT = k.ptrT := rfl
@[simp] theorem Core.i_setRow (k : Core) (r : BitVec 4) (v : Quad) : (k.setRow r v).i = k.i := rfl
@[simp] theorem Core.it_setRow (k : Core) (r : BitVec 4) (v : Quad) : (k.setRow r v).it = k.it := rfl
@[simp] theorem Core.dt_setRow (k : Core) (r : BitVec 4) (v : Quad) : (k.setRow r v).dt = k.dt := rfl
@[simp] theorem Core.m_setRow (k : Core) (r : BitVec 4) (v : Quad) : (k.setRow r v).m = k.m := rfl
@[simp] theorem Core.mt_setRow (k : Core) (r : BitVec 4) (v : Quad) : (k.setRow r v).mt = k.mt := rfl
@[simp] theorem Core.ivar_setRow (k : Core) (r : BitVec 4) (v : Quad) : (k.setRow r v).ivar = k.ivar := rfl
@[simp] theorem Core.pc_setRow (k : Core) (r : BitVec 4) (v : Quad) : (k.setRow r v).pc = k.pc := rfl
@[simp] theorem Core.ss_setRow (k : Core) (r : BitVec 4) (v : Quad) : (k.setRow r v).ss = k.ss := rfl
@[simp] theorem Core.la_setRow (k : Core) (r : BitVec 4) (v : Quad) : (k.setRow r v).la = k.la := rfl
@[simp] theorem Core.csl_setRow (k : Core) (r : BitVec 4) (v : Quad) : (k.setRow r v).csl = k.csl := rfl
@[simp] theorem Core.lc_setRow (k : Core) (r : BitVec 4) (v : Quad) : (k.setRow r v).lc = k.lc := rfl
@[simp] theorem Core.csh_setRow (k : Core) (r : BitVec 4) (v : Quad) : (k.setRow r v).csh = k.csh := rfl
@[simp] theorem Core.sp_setRow (k : Core) (r : BitVec 4) (v : Quad) : (k.setRow r v).sp = k.sp := rfl
@[simp] theorem Core.sars_setRow (k : Core) (r : BitVec 4) (v : Quad) : (k.setRow r v).sars = k.sars := rfl
@[simp] theorem Core.cntr_setRow (k : Core) (r : BitVec 4) (v : Quad) : (k.setRow r v).cntr = k.cntr := rfl
@[simp] theorem Core.dcsr_setRow (k : Core) (r : BitVec 4) (v : Quad) : (k.setRow r v).dcsr = k.dcsr := rfl
@[simp] theorem Core.sr_setRow (k : Core) (r : BitVec 4) (v : Quad) : (k.setRow r v).sr = k.sr := rfl
@[simp] theorem Core.ccr_setRow (k : Core) (r : BitVec 4) (v : Quad) : (k.setRow r v).ccr = k.ccr := rfl
@[simp] theorem Core.ccrSeen_setRow (k : Core) (r : BitVec 4) (v : Quad) : (k.setRow r v).ccrSeen = k.ccrSeen := rfl
@[simp] theorem Core.pdnr_setRow (k : Core) (r : BitVec 4) (v : Quad) : (k.setRow r v).pdnr = k.pdnr := rfl
@[simp] theorem Core.irqr_setRow (k : Core) (r : BitVec 4) (v : Quad) : (k.setRow r v).irqr = k.irqr := rfl
@[simp] theorem Core.imaskr_setRow (k : Core) (r : BitVec 4) (v : Quad) : (k.setRow r v).imaskr = k.imaskr := rfl
@[simp] theorem Core.tmr_setRow (k : Core) (r : BitVec 4) (v : Quad) : (k.setRow r v).tmr = k.tmr := rfl
@[simp] theorem Core.arbr_setRow (k : Core) (r : BitVec 4) (v : Quad) : (k.setRow r v).arbr = k.arbr := rfl
@[simp] theorem Core.sfr_setRow (k : Core) (r : BitVec 4) (v : Quad) : (k.setRow r v).sfr = k.sfr := rfl
@[simp] theorem Core.dbDcsr_setRow (k : Core) (r : BitVec 4) (v : Quad) : (k.setRow r v).dbDcsr = k.dbDcsr := rfl
@[simp] theorem Core.dbSars_setRow (k : Core) (r : BitVec 4) (v : Quad) : (k.setRow r v).dbSars = k.dbSars := rfl
@[simp] theorem Core.dbCntr_setRow (k : Core) (r : BitVec 4) (v : Quad) : (k.setRow r v).dbCntr = k.dbCntr := rfl
@[simp] theorem Core.cntRun_setRow (k : Core) (r : BitVec 4) (v : Quad) : (k.setRow r v).cntRun = k.cntRun := rfl
@[simp] theorem Core.dbPc_setRow (k : Core) (r : BitVec 4) (v : Quad) : (k.setRow r v).dbPc = k.dbPc := rfl
@[simp] theorem Core.inIsr_setRow (k : Core) (r : BitVec 4) (v : Quad) : (k.setRow r v).inIsr = k.inIsr := rfl
@[simp] theorem Core.pcstack_setRow (k : Core) (r : BitVec 4) (v : Quad) : (k.setRow r v).pcstack = k.pcstack := rfl
@[simp] theorem Core.stackErr_setRow (k : Core) (r : BitVec 4) (v : Quad) : (k.setRow r v).stackErr = k.stackErr := rfl
@[simp] theorem Core.sat_setRow (k : Core) (r : BitVec 4) (v : Quad) : (k.setRow r v).sat = k.sat := rfl
@[simp] theorem Core.scale_setRow (k : Core) (r : BitVec 4) (v : Quad) : (k.setRow r v).scale = k.scale := rfl
@[simp] theorem Core.scaledAt_setRow (k : Core) (r : BitVec 4) (v : Quad) : (k.setRow r v).scaledAt = k.scaledAt := rfl
@[simp] theorem Core.eBit_setRow (k : Core) (r : BitVec 4) (v : Quad) : (k.setRow r v).eBit = k.eBit := rfl
@[simp] theorem Core.farq_setRow (k : Core) (r : BitVec 4) (v : Quad) : (k.setRow r v).farq = k.farq := rfl
@[simp] theorem Core.held_setRow (k : Core) (r : BitVec 4) (v : Quad) : (k.setRow r v).held = k.held := rfl
@[simp] theorem Core.bpAt_setRow (k : Core) (r : BitVec 4) (v : Quad) : (k.setRow r v).bpAt = k.bpAt := rfl
@[simp] theorem Core.dbBpAt_setRow (k : Core) (r : BitVec 4) (v : Quad) : (k.setRow r v).dbBpAt = k.dbBpAt := rfl
@[simp] theorem Core.hist_setRow (k : Core) (r : BitVec 4) (v : Quad) : (k.setRow r v).hist = k.hist := rfl
@[simp] theorem Core.baseCode_setRow (k : Core) (r : BitVec 4) (v : Quad) : (k.setRow r v).baseCode = k.baseCode := rfl
@[simp] theorem Core.acc_setH (k : Core) (n : Reg) (v : Half) : (k.setH n v).acc = k.acc := rfl
@[simp] theorem Core.a_setH (k : Core) (n : Reg) (v : Half) : (k.setH n v).a = k.a := rfl
@[simp] theorem Core.ptrT_setH (k : Core) (n : Reg) (v : Half) : (k.setH n v).ptrT = k.ptrT := rfl
@[simp] theorem Core.i_setH (k : Core) (n : Reg) (v : Half) : (k.setH n v).i = k.i := rfl
@[simp] theorem Core.it_setH (k : Core) (n : Reg) (v : Half) : (k.setH n v).it = k.it := rfl
@[simp] theorem Core.dt_setH (k : Core) (n : Reg) (v : Half) : (k.setH n v).dt = k.dt := rfl
@[simp] theorem Core.m_setH (k : Core) (n : Reg) (v : Half) : (k.setH n v).m = k.m := rfl
@[simp] theorem Core.mt_setH (k : Core) (n : Reg) (v : Half) : (k.setH n v).mt = k.mt := rfl
@[simp] theorem Core.ivar_setH (k : Core) (n : Reg) (v : Half) : (k.setH n v).ivar = k.ivar := rfl
@[simp] theorem Core.pc_setH (k : Core) (n : Reg) (v : Half) : (k.setH n v).pc = k.pc := rfl
@[simp] theorem Core.ss_setH (k : Core) (n : Reg) (v : Half) : (k.setH n v).ss = k.ss := rfl
@[simp] theorem Core.la_setH (k : Core) (n : Reg) (v : Half) : (k.setH n v).la = k.la := rfl
@[simp] theorem Core.csl_setH (k : Core) (n : Reg) (v : Half) : (k.setH n v).csl = k.csl := rfl
@[simp] theorem Core.lc_setH (k : Core) (n : Reg) (v : Half) : (k.setH n v).lc = k.lc := rfl
@[simp] theorem Core.csh_setH (k : Core) (n : Reg) (v : Half) : (k.setH n v).csh = k.csh := rfl
@[simp] theorem Core.sp_setH (k : Core) (n : Reg) (v : Half) : (k.setH n v).sp = k.sp := rfl
@[simp] theorem Core.sars_setH (k : Core) (n : Reg) (v : Half) : (k.setH n v).sars = k.sars := rfl
@[simp] theorem Core.cntr_setH (k : Core) (n : Reg) (v : Half) : (k.setH n v).cntr = k.cntr := rfl
@[simp] theorem Core.dcsr_setH (k : Core) (n : Reg) (v : Half) : (k.setH n v).dcsr = k.dcsr := rfl
@[simp] theorem Core.sr_setH (k : Core) (n : Reg) (v : Half) : (k.setH n v).sr = k.sr := rfl
@[simp] theorem Core.ccr_setH (k : Core) (n : Reg) (v : Half) : (k.setH n v).ccr = k.ccr := rfl
@[simp] theorem Core.ccrSeen_setH (k : Core) (n : Reg) (v : Half) : (k.setH n v).ccrSeen = k.ccrSeen := rfl
@[simp] theorem Core.pdnr_setH (k : Core) (n : Reg) (v : Half) : (k.setH n v).pdnr = k.pdnr := rfl
@[simp] theorem Core.irqr_setH (k : Core) (n : Reg) (v : Half) : (k.setH n v).irqr = k.irqr := rfl
@[simp] theorem Core.imaskr_setH (k : Core) (n : Reg) (v : Half) : (k.setH n v).imaskr = k.imaskr := rfl
@[simp] theorem Core.tmr_setH (k : Core) (n : Reg) (v : Half) : (k.setH n v).tmr = k.tmr := rfl
@[simp] theorem Core.arbr_setH (k : Core) (n : Reg) (v : Half) : (k.setH n v).arbr = k.arbr := rfl
@[simp] theorem Core.sfr_setH (k : Core) (n : Reg) (v : Half) : (k.setH n v).sfr = k.sfr := rfl
@[simp] theorem Core.dbDcsr_setH (k : Core) (n : Reg) (v : Half) : (k.setH n v).dbDcsr = k.dbDcsr := rfl
@[simp] theorem Core.dbSars_setH (k : Core) (n : Reg) (v : Half) : (k.setH n v).dbSars = k.dbSars := rfl
@[simp] theorem Core.dbCntr_setH (k : Core) (n : Reg) (v : Half) : (k.setH n v).dbCntr = k.dbCntr := rfl
@[simp] theorem Core.cntRun_setH (k : Core) (n : Reg) (v : Half) : (k.setH n v).cntRun = k.cntRun := rfl
@[simp] theorem Core.dbPc_setH (k : Core) (n : Reg) (v : Half) : (k.setH n v).dbPc = k.dbPc := rfl
@[simp] theorem Core.inIsr_setH (k : Core) (n : Reg) (v : Half) : (k.setH n v).inIsr = k.inIsr := rfl
@[simp] theorem Core.pcstack_setH (k : Core) (n : Reg) (v : Half) : (k.setH n v).pcstack = k.pcstack := rfl
@[simp] theorem Core.stackErr_setH (k : Core) (n : Reg) (v : Half) : (k.setH n v).stackErr = k.stackErr := rfl
@[simp] theorem Core.sat_setH (k : Core) (n : Reg) (v : Half) : (k.setH n v).sat = k.sat := rfl
@[simp] theorem Core.scale_setH (k : Core) (n : Reg) (v : Half) : (k.setH n v).scale = k.scale := rfl
@[simp] theorem Core.scaledAt_setH (k : Core) (n : Reg) (v : Half) : (k.setH n v).scaledAt = k.scaledAt := rfl
@[simp] theorem Core.eBit_setH (k : Core) (n : Reg) (v : Half) : (k.setH n v).eBit = k.eBit := rfl
@[simp] theorem Core.farq_setH (k : Core) (n : Reg) (v : Half) : (k.setH n v).farq = k.farq := rfl
@[simp] theorem Core.held_setH (k : Core) (n : Reg) (v : Half) : (k.setH n v).held = k.held := rfl
@[simp] theorem Core.bpAt_setH (k : Core) (n : Reg) (v : Half) : (k.setH n v).bpAt = k.bpAt := rfl
@[simp] theorem Core.dbBpAt_setH (k : Core) (n : Reg) (v : Half) : (k.setH n v).dbBpAt = k.dbBpAt := rfl
@[simp] theorem Core.hist_setH (k : Core) (n : Reg) (v : Half) : (k.setH n v).hist = k.hist := rfl
@[simp] theorem Core.baseCode_setH (k : Core) (n : Reg) (v : Half) : (k.setH n v).baseCode = k.baseCode := rfl
@[simp] theorem Core.acc_setL (k : Core) (n : Reg) (v : Word) : (k.setL n v).acc = k.acc := rfl
@[simp] theorem Core.a_setL (k : Core) (n : Reg) (v : Word) : (k.setL n v).a = k.a := rfl
@[simp] theorem Core.ptrT_setL (k : Core) (n : Reg) (v : Word) : (k.setL n v).ptrT = k.ptrT := rfl
@[simp] theorem Core.i_setL (k : Core) (n : Reg) (v : Word) : (k.setL n v).i = k.i := rfl
@[simp] theorem Core.it_setL (k : Core) (n : Reg) (v : Word) : (k.setL n v).it = k.it := rfl
@[simp] theorem Core.dt_setL (k : Core) (n : Reg) (v : Word) : (k.setL n v).dt = k.dt := rfl
@[simp] theorem Core.m_setL (k : Core) (n : Reg) (v : Word) : (k.setL n v).m = k.m := rfl
@[simp] theorem Core.mt_setL (k : Core) (n : Reg) (v : Word) : (k.setL n v).mt = k.mt := rfl
@[simp] theorem Core.ivar_setL (k : Core) (n : Reg) (v : Word) : (k.setL n v).ivar = k.ivar := rfl
@[simp] theorem Core.pc_setL (k : Core) (n : Reg) (v : Word) : (k.setL n v).pc = k.pc := rfl
@[simp] theorem Core.ss_setL (k : Core) (n : Reg) (v : Word) : (k.setL n v).ss = k.ss := rfl
@[simp] theorem Core.la_setL (k : Core) (n : Reg) (v : Word) : (k.setL n v).la = k.la := rfl
@[simp] theorem Core.csl_setL (k : Core) (n : Reg) (v : Word) : (k.setL n v).csl = k.csl := rfl
@[simp] theorem Core.lc_setL (k : Core) (n : Reg) (v : Word) : (k.setL n v).lc = k.lc := rfl
@[simp] theorem Core.csh_setL (k : Core) (n : Reg) (v : Word) : (k.setL n v).csh = k.csh := rfl
@[simp] theorem Core.sp_setL (k : Core) (n : Reg) (v : Word) : (k.setL n v).sp = k.sp := rfl
@[simp] theorem Core.sars_setL (k : Core) (n : Reg) (v : Word) : (k.setL n v).sars = k.sars := rfl
@[simp] theorem Core.cntr_setL (k : Core) (n : Reg) (v : Word) : (k.setL n v).cntr = k.cntr := rfl
@[simp] theorem Core.dcsr_setL (k : Core) (n : Reg) (v : Word) : (k.setL n v).dcsr = k.dcsr := rfl
@[simp] theorem Core.sr_setL (k : Core) (n : Reg) (v : Word) : (k.setL n v).sr = k.sr := rfl
@[simp] theorem Core.ccr_setL (k : Core) (n : Reg) (v : Word) : (k.setL n v).ccr = k.ccr := rfl
@[simp] theorem Core.ccrSeen_setL (k : Core) (n : Reg) (v : Word) : (k.setL n v).ccrSeen = k.ccrSeen := rfl
@[simp] theorem Core.pdnr_setL (k : Core) (n : Reg) (v : Word) : (k.setL n v).pdnr = k.pdnr := rfl
@[simp] theorem Core.irqr_setL (k : Core) (n : Reg) (v : Word) : (k.setL n v).irqr = k.irqr := rfl
@[simp] theorem Core.imaskr_setL (k : Core) (n : Reg) (v : Word) : (k.setL n v).imaskr = k.imaskr := rfl
@[simp] theorem Core.tmr_setL (k : Core) (n : Reg) (v : Word) : (k.setL n v).tmr = k.tmr := rfl
@[simp] theorem Core.arbr_setL (k : Core) (n : Reg) (v : Word) : (k.setL n v).arbr = k.arbr := rfl
@[simp] theorem Core.sfr_setL (k : Core) (n : Reg) (v : Word) : (k.setL n v).sfr = k.sfr := rfl
@[simp] theorem Core.dbDcsr_setL (k : Core) (n : Reg) (v : Word) : (k.setL n v).dbDcsr = k.dbDcsr := rfl
@[simp] theorem Core.dbSars_setL (k : Core) (n : Reg) (v : Word) : (k.setL n v).dbSars = k.dbSars := rfl
@[simp] theorem Core.dbCntr_setL (k : Core) (n : Reg) (v : Word) : (k.setL n v).dbCntr = k.dbCntr := rfl
@[simp] theorem Core.cntRun_setL (k : Core) (n : Reg) (v : Word) : (k.setL n v).cntRun = k.cntRun := rfl
@[simp] theorem Core.dbPc_setL (k : Core) (n : Reg) (v : Word) : (k.setL n v).dbPc = k.dbPc := rfl
@[simp] theorem Core.inIsr_setL (k : Core) (n : Reg) (v : Word) : (k.setL n v).inIsr = k.inIsr := rfl
@[simp] theorem Core.pcstack_setL (k : Core) (n : Reg) (v : Word) : (k.setL n v).pcstack = k.pcstack := rfl
@[simp] theorem Core.stackErr_setL (k : Core) (n : Reg) (v : Word) : (k.setL n v).stackErr = k.stackErr := rfl
@[simp] theorem Core.sat_setL (k : Core) (n : Reg) (v : Word) : (k.setL n v).sat = k.sat := rfl
@[simp] theorem Core.scale_setL (k : Core) (n : Reg) (v : Word) : (k.setL n v).scale = k.scale := rfl
@[simp] theorem Core.scaledAt_setL (k : Core) (n : Reg) (v : Word) : (k.setL n v).scaledAt = k.scaledAt := rfl
@[simp] theorem Core.eBit_setL (k : Core) (n : Reg) (v : Word) : (k.setL n v).eBit = k.eBit := rfl
@[simp] theorem Core.farq_setL (k : Core) (n : Reg) (v : Word) : (k.setL n v).farq = k.farq := rfl
@[simp] theorem Core.held_setL (k : Core) (n : Reg) (v : Word) : (k.setL n v).held = k.held := rfl
@[simp] theorem Core.bpAt_setL (k : Core) (n : Reg) (v : Word) : (k.setL n v).bpAt = k.bpAt := rfl
@[simp] theorem Core.dbBpAt_setL (k : Core) (n : Reg) (v : Word) : (k.setL n v).dbBpAt = k.dbBpAt := rfl
@[simp] theorem Core.hist_setL (k : Core) (n : Reg) (v : Word) : (k.setL n v).hist = k.hist := rfl
@[simp] theorem Core.baseCode_setL (k : Core) (n : Reg) (v : Word) : (k.setL n v).baseCode = k.baseCode := rfl
@[simp] theorem Core.acc_setD (k : Core) (n : Reg) (v : Dbl) : (k.setD n v).acc = k.acc := rfl
@[simp] theorem Core.a_setD (k : Core) (n : Reg) (v : Dbl) : (k.setD n v).a = k.a := rfl
@[simp] theorem Core.ptrT_setD (k : Core) (n : Reg) (v : Dbl) : (k.setD n v).ptrT = k.ptrT := rfl
@[simp] theorem Core.i_setD (k : Core) (n : Reg) (v : Dbl) : (k.setD n v).i = k.i := rfl
@[simp] theorem Core.it_setD (k : Core) (n : Reg) (v : Dbl) : (k.setD n v).it = k.it := rfl
@[simp] theorem Core.dt_setD (k : Core) (n : Reg) (v : Dbl) : (k.setD n v).dt = k.dt := rfl
@[simp] theorem Core.m_setD (k : Core) (n : Reg) (v : Dbl) : (k.setD n v).m = k.m := rfl
@[simp] theorem Core.mt_setD (k : Core) (n : Reg) (v : Dbl) : (k.setD n v).mt = k.mt := rfl
@[simp] theorem Core.ivar_setD (k : Core) (n : Reg) (v : Dbl) : (k.setD n v).ivar = k.ivar := rfl
@[simp] theorem Core.pc_setD (k : Core) (n : Reg) (v : Dbl) : (k.setD n v).pc = k.pc := rfl
@[simp] theorem Core.ss_setD (k : Core) (n : Reg) (v : Dbl) : (k.setD n v).ss = k.ss := rfl
@[simp] theorem Core.la_setD (k : Core) (n : Reg) (v : Dbl) : (k.setD n v).la = k.la := rfl
@[simp] theorem Core.csl_setD (k : Core) (n : Reg) (v : Dbl) : (k.setD n v).csl = k.csl := rfl
@[simp] theorem Core.lc_setD (k : Core) (n : Reg) (v : Dbl) : (k.setD n v).lc = k.lc := rfl
@[simp] theorem Core.csh_setD (k : Core) (n : Reg) (v : Dbl) : (k.setD n v).csh = k.csh := rfl
@[simp] theorem Core.sp_setD (k : Core) (n : Reg) (v : Dbl) : (k.setD n v).sp = k.sp := rfl
@[simp] theorem Core.sars_setD (k : Core) (n : Reg) (v : Dbl) : (k.setD n v).sars = k.sars := rfl
@[simp] theorem Core.cntr_setD (k : Core) (n : Reg) (v : Dbl) : (k.setD n v).cntr = k.cntr := rfl
@[simp] theorem Core.dcsr_setD (k : Core) (n : Reg) (v : Dbl) : (k.setD n v).dcsr = k.dcsr := rfl
@[simp] theorem Core.sr_setD (k : Core) (n : Reg) (v : Dbl) : (k.setD n v).sr = k.sr := rfl
@[simp] theorem Core.ccr_setD (k : Core) (n : Reg) (v : Dbl) : (k.setD n v).ccr = k.ccr := rfl
@[simp] theorem Core.ccrSeen_setD (k : Core) (n : Reg) (v : Dbl) : (k.setD n v).ccrSeen = k.ccrSeen := rfl
@[simp] theorem Core.pdnr_setD (k : Core) (n : Reg) (v : Dbl) : (k.setD n v).pdnr = k.pdnr := rfl
@[simp] theorem Core.irqr_setD (k : Core) (n : Reg) (v : Dbl) : (k.setD n v).irqr = k.irqr := rfl
@[simp] theorem Core.imaskr_setD (k : Core) (n : Reg) (v : Dbl) : (k.setD n v).imaskr = k.imaskr := rfl
@[simp] theorem Core.tmr_setD (k : Core) (n : Reg) (v : Dbl) : (k.setD n v).tmr = k.tmr := rfl
@[simp] theorem Core.arbr_setD (k : Core) (n : Reg) (v : Dbl) : (k.setD n v).arbr = k.arbr := rfl
@[simp] theorem Core.sfr_setD (k : Core) (n : Reg) (v : Dbl) : (k.setD n v).sfr = k.sfr := rfl
@[simp] theorem Core.dbDcsr_setD (k : Core) (n : Reg) (v : Dbl) : (k.setD n v).dbDcsr = k.dbDcsr := rfl
@[simp] theorem Core.dbSars_setD (k : Core) (n : Reg) (v : Dbl) : (k.setD n v).dbSars = k.dbSars := rfl
@[simp] theorem Core.dbCntr_setD (k : Core) (n : Reg) (v : Dbl) : (k.setD n v).dbCntr = k.dbCntr := rfl
@[simp] theorem Core.cntRun_setD (k : Core) (n : Reg) (v : Dbl) : (k.setD n v).cntRun = k.cntRun := rfl
@[simp] theorem Core.dbPc_setD (k : Core) (n : Reg) (v : Dbl) : (k.setD n v).dbPc = k.dbPc := rfl
@[simp] theorem Core.inIsr_setD (k : Core) (n : Reg) (v : Dbl) : (k.setD n v).inIsr = k.inIsr := rfl
@[simp] theorem Core.pcstack_setD (k : Core) (n : Reg) (v : Dbl) : (k.setD n v).pcstack = k.pcstack := rfl
@[simp] theorem Core.stackErr_setD (k : Core) (n : Reg) (v : Dbl) : (k.setD n v).stackErr = k.stackErr := rfl
@[simp] theorem Core.sat_setD (k : Core) (n : Reg) (v : Dbl) : (k.setD n v).sat = k.sat := rfl
@[simp] theorem Core.scale_setD (k : Core) (n : Reg) (v : Dbl) : (k.setD n v).scale = k.scale := rfl
@[simp] theorem Core.scaledAt_setD (k : Core) (n : Reg) (v : Dbl) : (k.setD n v).scaledAt = k.scaledAt := rfl
@[simp] theorem Core.eBit_setD (k : Core) (n : Reg) (v : Dbl) : (k.setD n v).eBit = k.eBit := rfl
@[simp] theorem Core.farq_setD (k : Core) (n : Reg) (v : Dbl) : (k.setD n v).farq = k.farq := rfl
@[simp] theorem Core.held_setD (k : Core) (n : Reg) (v : Dbl) : (k.setD n v).held = k.held := rfl
@[simp] theorem Core.bpAt_setD (k : Core) (n : Reg) (v : Dbl) : (k.setD n v).bpAt = k.bpAt := rfl
@[simp] theorem Core.dbBpAt_setD (k : Core) (n : Reg) (v : Dbl) : (k.setD n v).dbBpAt = k.dbBpAt := rfl
@[simp] theorem Core.hist_setD (k : Core) (n : Reg) (v : Dbl) : (k.setD n v).hist = k.hist := rfl
@[simp] theorem Core.baseCode_setD (k : Core) (n : Reg) (v : Dbl) : (k.setD n v).baseCode = k.baseCode := rfl
@[simp] theorem Core.acc_setQ (k : Core) (n : Reg) (v : Quad) : (k.setQ n v).acc = k.acc := rfl
@[simp] theorem Core.a_setQ (k : Core) (n : Reg) (v : Quad) : (k.setQ n v).a = k.a := rfl
@[simp] theorem Core.ptrT_setQ (k : Core) (n : Reg) (v : Quad) : (k.setQ n v).ptrT = k.ptrT := rfl
@[simp] theorem Core.i_setQ (k : Core) (n : Reg) (v : Quad) : (k.setQ n v).i = k.i := rfl
@[simp] theorem Core.it_setQ (k : Core) (n : Reg) (v : Quad) : (k.setQ n v).it = k.it := rfl
@[simp] theorem Core.dt_setQ (k : Core) (n : Reg) (v : Quad) : (k.setQ n v).dt = k.dt := rfl
@[simp] theorem Core.m_setQ (k : Core) (n : Reg) (v : Quad) : (k.setQ n v).m = k.m := rfl
@[simp] theorem Core.mt_setQ (k : Core) (n : Reg) (v : Quad) : (k.setQ n v).mt = k.mt := rfl
@[simp] theorem Core.ivar_setQ (k : Core) (n : Reg) (v : Quad) : (k.setQ n v).ivar = k.ivar := rfl
@[simp] theorem Core.pc_setQ (k : Core) (n : Reg) (v : Quad) : (k.setQ n v).pc = k.pc := rfl
@[simp] theorem Core.ss_setQ (k : Core) (n : Reg) (v : Quad) : (k.setQ n v).ss = k.ss := rfl
@[simp] theorem Core.la_setQ (k : Core) (n : Reg) (v : Quad) : (k.setQ n v).la = k.la := rfl
@[simp] theorem Core.csl_setQ (k : Core) (n : Reg) (v : Quad) : (k.setQ n v).csl = k.csl := rfl
@[simp] theorem Core.lc_setQ (k : Core) (n : Reg) (v : Quad) : (k.setQ n v).lc = k.lc := rfl
@[simp] theorem Core.csh_setQ (k : Core) (n : Reg) (v : Quad) : (k.setQ n v).csh = k.csh := rfl
@[simp] theorem Core.sp_setQ (k : Core) (n : Reg) (v : Quad) : (k.setQ n v).sp = k.sp := rfl
@[simp] theorem Core.sars_setQ (k : Core) (n : Reg) (v : Quad) : (k.setQ n v).sars = k.sars := rfl
@[simp] theorem Core.cntr_setQ (k : Core) (n : Reg) (v : Quad) : (k.setQ n v).cntr = k.cntr := rfl
@[simp] theorem Core.dcsr_setQ (k : Core) (n : Reg) (v : Quad) : (k.setQ n v).dcsr = k.dcsr := rfl
@[simp] theorem Core.sr_setQ (k : Core) (n : Reg) (v : Quad) : (k.setQ n v).sr = k.sr := rfl
@[simp] theorem Core.ccr_setQ (k : Core) (n : Reg) (v : Quad) : (k.setQ n v).ccr = k.ccr := rfl
@[simp] theorem Core.ccrSeen_setQ (k : Core) (n : Reg) (v : Quad) : (k.setQ n v).ccrSeen = k.ccrSeen := rfl
@[simp] theorem Core.pdnr_setQ (k : Core) (n : Reg) (v : Quad) : (k.setQ n v).pdnr = k.pdnr := rfl
@[simp] theorem Core.irqr_setQ (k : Core) (n : Reg) (v : Quad) : (k.setQ n v).irqr = k.irqr := rfl
@[simp] theorem Core.imaskr_setQ (k : Core) (n : Reg) (v : Quad) : (k.setQ n v).imaskr = k.imaskr := rfl
@[simp] theorem Core.tmr_setQ (k : Core) (n : Reg) (v : Quad) : (k.setQ n v).tmr = k.tmr := rfl
@[simp] theorem Core.arbr_setQ (k : Core) (n : Reg) (v : Quad) : (k.setQ n v).arbr = k.arbr := rfl
@[simp] theorem Core.sfr_setQ (k : Core) (n : Reg) (v : Quad) : (k.setQ n v).sfr = k.sfr := rfl
@[simp] theorem Core.dbDcsr_setQ (k : Core) (n : Reg) (v : Quad) : (k.setQ n v).dbDcsr = k.dbDcsr := rfl
@[simp] theorem Core.dbSars_setQ (k : Core) (n : Reg) (v : Quad) : (k.setQ n v).dbSars = k.dbSars := rfl
@[simp] theorem Core.dbCntr_setQ (k : Core) (n : Reg) (v : Quad) : (k.setQ n v).dbCntr = k.dbCntr := rfl
@[simp] theorem Core.cntRun_setQ (k : Core) (n : Reg) (v : Quad) : (k.setQ n v).cntRun = k.cntRun := rfl
@[simp] theorem Core.dbPc_setQ (k : Core) (n : Reg) (v : Quad) : (k.setQ n v).dbPc = k.dbPc := rfl
@[simp] theorem Core.inIsr_setQ (k : Core) (n : Reg) (v : Quad) : (k.setQ n v).inIsr = k.inIsr := rfl
@[simp] theorem Core.pcstack_setQ (k : Core) (n : Reg) (v : Quad) : (k.setQ n v).pcstack = k.pcstack := rfl
@[simp] theorem Core.stackErr_setQ (k : Core) (n : Reg) (v : Quad) : (k.setQ n v).stackErr = k.stackErr := rfl
@[simp] theorem Core.sat_setQ (k : Core) (n : Reg) (v : Quad) : (k.setQ n v).sat = k.sat := rfl
@[simp] theorem Core.scale_setQ (k : Core) (n : Reg) (v : Quad) : (k.setQ n v).scale = k.scale := rfl
@[simp] theorem Core.scaledAt_setQ (k : Core) (n : Reg) (v : Quad) : (k.setQ n v).scaledAt = k.scaledAt := rfl
@[simp] theorem Core.eBit_setQ (k : Core) (n : Reg) (v : Quad) : (k.setQ n v).eBit = k.eBit := rfl
@[simp] theorem Core.farq_setQ (k : Core) (n : Reg) (v : Quad) : (k.setQ n v).farq = k.farq := rfl
@[simp] theorem Core.held_setQ (k : Core) (n : Reg) (v : Quad) : (k.setQ n v).held = k.held := rfl
@[simp] theorem Core.bpAt_setQ (k : Core) (n : Reg) (v : Quad) : (k.setQ n v).bpAt = k.bpAt := rfl
@[simp] theorem Core.dbBpAt_setQ (k : Core) (n : Reg) (v : Quad) : (k.setQ n v).dbBpAt = k.dbBpAt := rfl
@[simp] theorem Core.hist_setQ (k : Core) (n : Reg) (v : Quad) : (k.setQ n v).hist = k.hist := rfl
@[simp] theorem Core.baseCode_setQ (k : Core) (n : Reg) (v : Quad) : (k.setQ n v).baseCode = k.baseCode := rfl
@[simp] theorem Core.rows_setAcL (k : Core) (n : BitVec 4) (v : Word) : (k.setAcL n v).rows = k.rows := rfl
@[simp] theorem Core.a_setAcL (k : Core) (n : BitVec 4) (v : Word) : (k.setAcL n v).a = k.a := rfl
@[simp] theorem Core.ptrT_setAcL (k : Core) (n : BitVec 4) (v : Word) : (k.setAcL n v).ptrT = k.ptrT := rfl
@[simp] theorem Core.i_setAcL (k : Core) (n : BitVec 4) (v : Word) : (k.setAcL n v).i = k.i := rfl
@[simp] theorem Core.it_setAcL (k : Core) (n : BitVec 4) (v : Word) : (k.setAcL n v).it = k.it := rfl
@[simp] theorem Core.dt_setAcL (k : Core) (n : BitVec 4) (v : Word) : (k.setAcL n v).dt = k.dt := rfl
@[simp] theorem Core.m_setAcL (k : Core) (n : BitVec 4) (v : Word) : (k.setAcL n v).m = k.m := rfl
@[simp] theorem Core.mt_setAcL (k : Core) (n : BitVec 4) (v : Word) : (k.setAcL n v).mt = k.mt := rfl
@[simp] theorem Core.ivar_setAcL (k : Core) (n : BitVec 4) (v : Word) : (k.setAcL n v).ivar = k.ivar := rfl
@[simp] theorem Core.pc_setAcL (k : Core) (n : BitVec 4) (v : Word) : (k.setAcL n v).pc = k.pc := rfl
@[simp] theorem Core.ss_setAcL (k : Core) (n : BitVec 4) (v : Word) : (k.setAcL n v).ss = k.ss := rfl
@[simp] theorem Core.la_setAcL (k : Core) (n : BitVec 4) (v : Word) : (k.setAcL n v).la = k.la := rfl
@[simp] theorem Core.csl_setAcL (k : Core) (n : BitVec 4) (v : Word) : (k.setAcL n v).csl = k.csl := rfl
@[simp] theorem Core.lc_setAcL (k : Core) (n : BitVec 4) (v : Word) : (k.setAcL n v).lc = k.lc := rfl
@[simp] theorem Core.csh_setAcL (k : Core) (n : BitVec 4) (v : Word) : (k.setAcL n v).csh = k.csh := rfl
@[simp] theorem Core.sp_setAcL (k : Core) (n : BitVec 4) (v : Word) : (k.setAcL n v).sp = k.sp := rfl
@[simp] theorem Core.sars_setAcL (k : Core) (n : BitVec 4) (v : Word) : (k.setAcL n v).sars = k.sars := rfl
@[simp] theorem Core.cntr_setAcL (k : Core) (n : BitVec 4) (v : Word) : (k.setAcL n v).cntr = k.cntr := rfl
@[simp] theorem Core.dcsr_setAcL (k : Core) (n : BitVec 4) (v : Word) : (k.setAcL n v).dcsr = k.dcsr := rfl
@[simp] theorem Core.sr_setAcL (k : Core) (n : BitVec 4) (v : Word) : (k.setAcL n v).sr = k.sr := rfl
@[simp] theorem Core.ccr_setAcL (k : Core) (n : BitVec 4) (v : Word) : (k.setAcL n v).ccr = k.ccr := rfl
@[simp] theorem Core.ccrSeen_setAcL (k : Core) (n : BitVec 4) (v : Word) : (k.setAcL n v).ccrSeen = k.ccrSeen := rfl
@[simp] theorem Core.pdnr_setAcL (k : Core) (n : BitVec 4) (v : Word) : (k.setAcL n v).pdnr = k.pdnr := rfl
@[simp] theorem Core.irqr_setAcL (k : Core) (n : BitVec 4) (v : Word) : (k.setAcL n v).irqr = k.irqr := rfl
@[simp] theorem Core.imaskr_setAcL (k : Core) (n : BitVec 4) (v : Word) : (k.setAcL n v).imaskr = k.imaskr := rfl
@[simp] theorem Core.tmr_setAcL (k : Core) (n : BitVec 4) (v : Word) : (k.setAcL n v).tmr = k.tmr := rfl
@[simp] theorem Core.arbr_setAcL (k : Core) (n : BitVec 4) (v : Word) : (k.setAcL n v).arbr = k.arbr := rfl
@[simp] theorem Core.sfr_setAcL (k : Core) (n : BitVec 4) (v : Word) : (k.setAcL n v).sfr = k.sfr := rfl
@[simp] theorem Core.dbDcsr_setAcL (k : Core) (n : BitVec 4) (v : Word) : (k.setAcL n v).dbDcsr = k.dbDcsr := rfl
@[simp] theorem Core.dbSars_setAcL (k : Core) (n : BitVec 4) (v : Word) : (k.setAcL n v).dbSars = k.dbSars := rfl
@[simp] theorem Core.dbCntr_setAcL (k : Core) (n : BitVec 4) (v : Word) : (k.setAcL n v).dbCntr = k.dbCntr := rfl
@[simp] theorem Core.cntRun_setAcL (k : Core) (n : BitVec 4) (v : Word) : (k.setAcL n v).cntRun = k.cntRun := rfl
@[simp] theorem Core.dbPc_setAcL (k : Core) (n : BitVec 4) (v : Word) : (k.setAcL n v).dbPc = k.dbPc := rfl
@[simp] theorem Core.inIsr_setAcL (k : Core) (n : BitVec 4) (v : Word) : (k.setAcL n v).inIsr = k.inIsr := rfl
@[simp] theorem Core.pcstack_setAcL (k : Core) (n : BitVec 4) (v : Word) : (k.setAcL n v).pcstack = k.pcstack := rfl
@[simp] theorem Core.stackErr_setAcL (k : Core) (n : BitVec 4) (v : Word) : (k.setAcL n v).stackErr = k.stackErr := rfl
@[simp] theorem Core.sat_setAcL (k : Core) (n : BitVec 4) (v : Word) : (k.setAcL n v).sat = k.sat := rfl
@[simp] theorem Core.scale_setAcL (k : Core) (n : BitVec 4) (v : Word) : (k.setAcL n v).scale = k.scale := rfl
@[simp] theorem Core.scaledAt_setAcL (k : Core) (n : BitVec 4) (v : Word) : (k.setAcL n v).scaledAt = k.scaledAt := rfl
@[simp] theorem Core.eBit_setAcL (k : Core) (n : BitVec 4) (v : Word) : (k.setAcL n v).eBit = k.eBit := rfl
@[simp] theorem Core.farq_setAcL (k : Core) (n : BitVec 4) (v : Word) : (k.setAcL n v).farq = k.farq := rfl
@[simp] theorem Core.held_setAcL (k : Core) (n : BitVec 4) (v : Word) : (k.setAcL n v).held = k.held := rfl
@[simp] theorem Core.bpAt_setAcL (k : Core) (n : BitVec 4) (v : Word) : (k.setAcL n v).bpAt = k.bpAt := rfl
@[simp] theorem Core.dbBpAt_setAcL (k : Core) (n : BitVec 4) (v : Word) : (k.setAcL n v).dbBpAt = k.dbBpAt := rfl
@[simp] theorem Core.hist_setAcL (k : Core) (n : BitVec 4) (v : Word) : (k.setAcL n v).hist = k.hist := rfl
@[simp] theorem Core.baseCode_setAcL (k : Core) (n : BitVec 4) (v : Word) : (k.setAcL n v).baseCode = k.baseCode := rfl
@[simp] theorem Core.rows_setAcc64 (k : Core) (n : BitVec 3) (v : Dbl) : (k.setAcc64 n v).rows = k.rows := rfl
@[simp] theorem Core.a_setAcc64 (k : Core) (n : BitVec 3) (v : Dbl) : (k.setAcc64 n v).a = k.a := rfl
@[simp] theorem Core.ptrT_setAcc64 (k : Core) (n : BitVec 3) (v : Dbl) : (k.setAcc64 n v).ptrT = k.ptrT := rfl
@[simp] theorem Core.i_setAcc64 (k : Core) (n : BitVec 3) (v : Dbl) : (k.setAcc64 n v).i = k.i := rfl
@[simp] theorem Core.it_setAcc64 (k : Core) (n : BitVec 3) (v : Dbl) : (k.setAcc64 n v).it = k.it := rfl
@[simp] theorem Core.dt_setAcc64 (k : Core) (n : BitVec 3) (v : Dbl) : (k.setAcc64 n v).dt = k.dt := rfl
@[simp] theorem Core.m_setAcc64 (k : Core) (n : BitVec 3) (v : Dbl) : (k.setAcc64 n v).m = k.m := rfl
@[simp] theorem Core.mt_setAcc64 (k : Core) (n : BitVec 3) (v : Dbl) : (k.setAcc64 n v).mt = k.mt := rfl
@[simp] theorem Core.ivar_setAcc64 (k : Core) (n : BitVec 3) (v : Dbl) : (k.setAcc64 n v).ivar = k.ivar := rfl
@[simp] theorem Core.pc_setAcc64 (k : Core) (n : BitVec 3) (v : Dbl) : (k.setAcc64 n v).pc = k.pc := rfl
@[simp] theorem Core.ss_setAcc64 (k : Core) (n : BitVec 3) (v : Dbl) : (k.setAcc64 n v).ss = k.ss := rfl
@[simp] theorem Core.la_setAcc64 (k : Core) (n : BitVec 3) (v : Dbl) : (k.setAcc64 n v).la = k.la := rfl
@[simp] theorem Core.csl_setAcc64 (k : Core) (n : BitVec 3) (v : Dbl) : (k.setAcc64 n v).csl = k.csl := rfl
@[simp] theorem Core.lc_setAcc64 (k : Core) (n : BitVec 3) (v : Dbl) : (k.setAcc64 n v).lc = k.lc := rfl
@[simp] theorem Core.csh_setAcc64 (k : Core) (n : BitVec 3) (v : Dbl) : (k.setAcc64 n v).csh = k.csh := rfl
@[simp] theorem Core.sp_setAcc64 (k : Core) (n : BitVec 3) (v : Dbl) : (k.setAcc64 n v).sp = k.sp := rfl
@[simp] theorem Core.sars_setAcc64 (k : Core) (n : BitVec 3) (v : Dbl) : (k.setAcc64 n v).sars = k.sars := rfl
@[simp] theorem Core.cntr_setAcc64 (k : Core) (n : BitVec 3) (v : Dbl) : (k.setAcc64 n v).cntr = k.cntr := rfl
@[simp] theorem Core.dcsr_setAcc64 (k : Core) (n : BitVec 3) (v : Dbl) : (k.setAcc64 n v).dcsr = k.dcsr := rfl
@[simp] theorem Core.sr_setAcc64 (k : Core) (n : BitVec 3) (v : Dbl) : (k.setAcc64 n v).sr = k.sr := rfl
@[simp] theorem Core.ccr_setAcc64 (k : Core) (n : BitVec 3) (v : Dbl) : (k.setAcc64 n v).ccr = k.ccr := rfl
@[simp] theorem Core.ccrSeen_setAcc64 (k : Core) (n : BitVec 3) (v : Dbl) : (k.setAcc64 n v).ccrSeen = k.ccrSeen := rfl
@[simp] theorem Core.pdnr_setAcc64 (k : Core) (n : BitVec 3) (v : Dbl) : (k.setAcc64 n v).pdnr = k.pdnr := rfl
@[simp] theorem Core.irqr_setAcc64 (k : Core) (n : BitVec 3) (v : Dbl) : (k.setAcc64 n v).irqr = k.irqr := rfl
@[simp] theorem Core.imaskr_setAcc64 (k : Core) (n : BitVec 3) (v : Dbl) : (k.setAcc64 n v).imaskr = k.imaskr := rfl
@[simp] theorem Core.tmr_setAcc64 (k : Core) (n : BitVec 3) (v : Dbl) : (k.setAcc64 n v).tmr = k.tmr := rfl
@[simp] theorem Core.arbr_setAcc64 (k : Core) (n : BitVec 3) (v : Dbl) : (k.setAcc64 n v).arbr = k.arbr := rfl
@[simp] theorem Core.sfr_setAcc64 (k : Core) (n : BitVec 3) (v : Dbl) : (k.setAcc64 n v).sfr = k.sfr := rfl
@[simp] theorem Core.dbDcsr_setAcc64 (k : Core) (n : BitVec 3) (v : Dbl) : (k.setAcc64 n v).dbDcsr = k.dbDcsr := rfl
@[simp] theorem Core.dbSars_setAcc64 (k : Core) (n : BitVec 3) (v : Dbl) : (k.setAcc64 n v).dbSars = k.dbSars := rfl
@[simp] theorem Core.dbCntr_setAcc64 (k : Core) (n : BitVec 3) (v : Dbl) : (k.setAcc64 n v).dbCntr = k.dbCntr := rfl
@[simp] theorem Core.cntRun_setAcc64 (k : Core) (n : BitVec 3) (v : Dbl) : (k.setAcc64 n v).cntRun = k.cntRun := rfl
@[simp] theorem Core.dbPc_setAcc64 (k : Core) (n : BitVec 3) (v : Dbl) : (k.setAcc64 n v).dbPc = k.dbPc := rfl
@[simp] theorem Core.inIsr_setAcc64 (k : Core) (n : BitVec 3) (v : Dbl) : (k.setAcc64 n v).inIsr = k.inIsr := rfl
@[simp] theorem Core.pcstack_setAcc64 (k : Core) (n : BitVec 3) (v : Dbl) : (k.setAcc64 n v).pcstack = k.pcstack := rfl
@[simp] theorem Core.stackErr_setAcc64 (k : Core) (n : BitVec 3) (v : Dbl) : (k.setAcc64 n v).stackErr = k.stackErr := rfl
@[simp] theorem Core.sat_setAcc64 (k : Core) (n : BitVec 3) (v : Dbl) : (k.setAcc64 n v).sat = k.sat := rfl
@[simp] theorem Core.scale_setAcc64 (k : Core) (n : BitVec 3) (v : Dbl) : (k.setAcc64 n v).scale = k.scale := rfl
@[simp] theorem Core.scaledAt_setAcc64 (k : Core) (n : BitVec 3) (v : Dbl) : (k.setAcc64 n v).scaledAt = k.scaledAt := rfl
@[simp] theorem Core.eBit_setAcc64 (k : Core) (n : BitVec 3) (v : Dbl) : (k.setAcc64 n v).eBit = k.eBit := rfl
@[simp] theorem Core.farq_setAcc64 (k : Core) (n : BitVec 3) (v : Dbl) : (k.setAcc64 n v).farq = k.farq := rfl
@[simp] theorem Core.held_setAcc64 (k : Core) (n : BitVec 3) (v : Dbl) : (k.setAcc64 n v).held = k.held := rfl
@[simp] theorem Core.bpAt_setAcc64 (k : Core) (n : BitVec 3) (v : Dbl) : (k.setAcc64 n v).bpAt = k.bpAt := rfl
@[simp] theorem Core.dbBpAt_setAcc64 (k : Core) (n : BitVec 3) (v : Dbl) : (k.setAcc64 n v).dbBpAt = k.dbBpAt := rfl
@[simp] theorem Core.hist_setAcc64 (k : Core) (n : BitVec 3) (v : Dbl) : (k.setAcc64 n v).hist = k.hist := rfl
@[simp] theorem Core.baseCode_setAcc64 (k : Core) (n : BitVec 3) (v : Dbl) : (k.setAcc64 n v).baseCode = k.baseCode := rfl
@[simp] theorem Core.rows_setA (k : Core) (n : BitVec 3) (v : Word) : (k.setA n v).rows = k.rows := rfl
@[simp] theorem Core.acc_setA (k : Core) (n : BitVec 3) (v : Word) : (k.setA n v).acc = k.acc := rfl
@[simp] theorem Core.ptrT_setA (k : Core) (n : BitVec 3) (v : Word) : (k.setA n v).ptrT = k.ptrT := rfl
@[simp] theorem Core.i_setA (k : Core) (n : BitVec 3) (v : Word) : (k.setA n v).i = k.i := rfl
@[simp] theorem Core.it_setA (k : Core) (n : BitVec 3) (v : Word) : (k.setA n v).it = k.it := rfl
@[simp] theorem Core.dt_setA (k : Core) (n : BitVec 3) (v : Word) : (k.setA n v).dt = k.dt := rfl
@[simp] theorem Core.m_setA (k : Core) (n : BitVec 3) (v : Word) : (k.setA n v).m = k.m := rfl
@[simp] theorem Core.mt_setA (k : Core) (n : BitVec 3) (v : Word) : (k.setA n v).mt = k.mt := rfl
@[simp] theorem Core.ivar_setA (k : Core) (n : BitVec 3) (v : Word) : (k.setA n v).ivar = k.ivar := rfl
@[simp] theorem Core.pc_setA (k : Core) (n : BitVec 3) (v : Word) : (k.setA n v).pc = k.pc := rfl
@[simp] theorem Core.ss_setA (k : Core) (n : BitVec 3) (v : Word) : (k.setA n v).ss = k.ss := rfl
@[simp] theorem Core.la_setA (k : Core) (n : BitVec 3) (v : Word) : (k.setA n v).la = k.la := rfl
@[simp] theorem Core.csl_setA (k : Core) (n : BitVec 3) (v : Word) : (k.setA n v).csl = k.csl := rfl
@[simp] theorem Core.lc_setA (k : Core) (n : BitVec 3) (v : Word) : (k.setA n v).lc = k.lc := rfl
@[simp] theorem Core.csh_setA (k : Core) (n : BitVec 3) (v : Word) : (k.setA n v).csh = k.csh := rfl
@[simp] theorem Core.sp_setA (k : Core) (n : BitVec 3) (v : Word) : (k.setA n v).sp = k.sp := rfl
@[simp] theorem Core.sars_setA (k : Core) (n : BitVec 3) (v : Word) : (k.setA n v).sars = k.sars := rfl
@[simp] theorem Core.cntr_setA (k : Core) (n : BitVec 3) (v : Word) : (k.setA n v).cntr = k.cntr := rfl
@[simp] theorem Core.dcsr_setA (k : Core) (n : BitVec 3) (v : Word) : (k.setA n v).dcsr = k.dcsr := rfl
@[simp] theorem Core.sr_setA (k : Core) (n : BitVec 3) (v : Word) : (k.setA n v).sr = k.sr := rfl
@[simp] theorem Core.ccr_setA (k : Core) (n : BitVec 3) (v : Word) : (k.setA n v).ccr = k.ccr := rfl
@[simp] theorem Core.ccrSeen_setA (k : Core) (n : BitVec 3) (v : Word) : (k.setA n v).ccrSeen = k.ccrSeen := rfl
@[simp] theorem Core.pdnr_setA (k : Core) (n : BitVec 3) (v : Word) : (k.setA n v).pdnr = k.pdnr := rfl
@[simp] theorem Core.irqr_setA (k : Core) (n : BitVec 3) (v : Word) : (k.setA n v).irqr = k.irqr := rfl
@[simp] theorem Core.imaskr_setA (k : Core) (n : BitVec 3) (v : Word) : (k.setA n v).imaskr = k.imaskr := rfl
@[simp] theorem Core.tmr_setA (k : Core) (n : BitVec 3) (v : Word) : (k.setA n v).tmr = k.tmr := rfl
@[simp] theorem Core.arbr_setA (k : Core) (n : BitVec 3) (v : Word) : (k.setA n v).arbr = k.arbr := rfl
@[simp] theorem Core.sfr_setA (k : Core) (n : BitVec 3) (v : Word) : (k.setA n v).sfr = k.sfr := rfl
@[simp] theorem Core.dbDcsr_setA (k : Core) (n : BitVec 3) (v : Word) : (k.setA n v).dbDcsr = k.dbDcsr := rfl
@[simp] theorem Core.dbSars_setA (k : Core) (n : BitVec 3) (v : Word) : (k.setA n v).dbSars = k.dbSars := rfl
@[simp] theorem Core.dbCntr_setA (k : Core) (n : BitVec 3) (v : Word) : (k.setA n v).dbCntr = k.dbCntr := rfl
@[simp] theorem Core.cntRun_setA (k : Core) (n : BitVec 3) (v : Word) : (k.setA n v).cntRun = k.cntRun := rfl
@[simp] theorem Core.dbPc_setA (k : Core) (n : BitVec 3) (v : Word) : (k.setA n v).dbPc = k.dbPc := rfl
@[simp] theorem Core.inIsr_setA (k : Core) (n : BitVec 3) (v : Word) : (k.setA n v).inIsr = k.inIsr := rfl
@[simp] theorem Core.pcstack_setA (k : Core) (n : BitVec 3) (v : Word) : (k.setA n v).pcstack = k.pcstack := rfl
@[simp] theorem Core.stackErr_setA (k : Core) (n : BitVec 3) (v : Word) : (k.setA n v).stackErr = k.stackErr := rfl
@[simp] theorem Core.sat_setA (k : Core) (n : BitVec 3) (v : Word) : (k.setA n v).sat = k.sat := rfl
@[simp] theorem Core.scale_setA (k : Core) (n : BitVec 3) (v : Word) : (k.setA n v).scale = k.scale := rfl
@[simp] theorem Core.scaledAt_setA (k : Core) (n : BitVec 3) (v : Word) : (k.setA n v).scaledAt = k.scaledAt := rfl
@[simp] theorem Core.eBit_setA (k : Core) (n : BitVec 3) (v : Word) : (k.setA n v).eBit = k.eBit := rfl
@[simp] theorem Core.farq_setA (k : Core) (n : BitVec 3) (v : Word) : (k.setA n v).farq = k.farq := rfl
@[simp] theorem Core.held_setA (k : Core) (n : BitVec 3) (v : Word) : (k.setA n v).held = k.held := rfl
@[simp] theorem Core.bpAt_setA (k : Core) (n : BitVec 3) (v : Word) : (k.setA n v).bpAt = k.bpAt := rfl
@[simp] theorem Core.dbBpAt_setA (k : Core) (n : BitVec 3) (v : Word) : (k.setA n v).dbBpAt = k.dbBpAt := rfl
@[simp] theorem Core.hist_setA (k : Core) (n : BitVec 3) (v : Word) : (k.setA n v).hist = k.hist := rfl
@[simp] theorem Core.baseCode_setA (k : Core) (n : BitVec 3) (v : Word) : (k.setA n v).baseCode = k.baseCode := rfl

end Sys2Proof.Machine
end

