-- ==== Sys2Proof/Laws/Registers.lean ====
section
/-! SUPPORT. The register file and the accumulators: reading back what was written, and what a write leaves alone. -/

namespace Sys2Proof.Machine

theorem Core.row_setRow_same (k : Core) (r : BitVec 4) (v : Quad) : (k.setRow r v).row r = v := by
  simp [Core.row, Core.setRow]

theorem Core.row_setRow_ne (k : Core) {r r' : BitVec 4} (v : Quad) (h : r ≠ r') : (k.setRow r v).row r' = k.row r' := by
  have : r.toNat ≠ r'.toNat := fun e => h (BitVec.eq_of_toNat_eq e)
  simp [Core.row, Core.setRow, Vector.getElem_set_ne, this]

theorem Core.acL_setAcL_same (k : Core) (n : BitVec 4) (v : Word) : (k.setAcL n v).acL n = v := by
  simp [Core.acL, Core.setAcL]

theorem Core.acL_setAcL_ne (k : Core) {n m : BitVec 4} (v : Word) (h : n ≠ m) : (k.setAcL n v).acL m = k.acL m := by
  have : n.toNat ≠ m.toNat := fun e => h (BitVec.eq_of_toNat_eq e)
  simp [Core.acL, Core.setAcL, Vector.getElem_set_ne, this]

/-- The middle field of a concatenation. -/
theorem extract_mid {a n b : Nat} (x : BitVec a) (v : BitVec n) (y : BitVec b) :
    (x ++ v ++ y).extractLsb' b n = v := by
  apply BitVec.eq_of_getLsbD_eq
  intro i hi
  simp [BitVec.getLsbD_append, hi]

/-- The low field of a concatenation. -/
theorem extract_low {a n : Nat} (x : BitVec a) (v : BitVec n) : (x ++ v).extractLsb' 0 n = v := by
  apply BitVec.eq_of_getLsbD_eq
  intro i hi
  simp [BitVec.getLsbD_append, hi]

/-- The high field of a concatenation. -/
theorem extract_high {n b : Nat} (v : BitVec n) (y : BitVec b) : (v ++ y).extractLsb' b n = v := by
  apply BitVec.eq_of_getLsbD_eq
  intro i hi
  simp [BitVec.getLsbD_append, hi]

theorem Core.h_setH_same (k : Core) (n : Reg) (v : Half) : (k.setH n v).h n = v := by
  unfold Core.h Core.setH
  split <;> simp only [Core.row_setRow_same]
  · exact extract_mid _ _ _
  · exact extract_low _ _

theorem Core.l_setL_same (k : Core) (n : Reg) (v : Word) : (k.setL n v).l n = v := by
  unfold Core.l Core.setL
  split <;> simp only [Core.row_setRow_same]
  · exact extract_mid _ _ _
  · exact extract_low _ _

theorem Core.d_setD_same (k : Core) (n : Reg) (v : Dbl) : (k.setD n v).d n = v := by
  unfold Core.d Core.setD
  split <;> simp only [Core.row_setRow_same]
  · exact extract_high _ _
  · exact extract_low _ _

theorem Core.q_setQ_same (k : Core) (n : Reg) (v : Quad) : (k.setQ n v).q n = v := by
  simp [Core.q, Core.setQ, Core.row_setRow_same]

/-! ### What a write leaves alone -/

theorem unitMask_w16 : ∀ (n : Reg) (u : BitVec 7), rowOf n = u.extractLsb' 3 4 →
    (unitMask n .w16).getLsbD u.toNat = decide ((u.extractLsb' 0 3).toNat = if oddReg n then 1 else 0) := by
  decide +kernel

theorem unitMask_w32 : ∀ (n : Reg) (u : BitVec 7), rowOf n = u.extractLsb' 3 4 →
    (unitMask n .w32).getLsbD u.toNat = decide ((u.extractLsb' 0 3).toNat / 2 = if oddReg n then 1 else 0) := by
  decide +kernel

theorem unitMask_w64 : ∀ (n : Reg) (u : BitVec 7), rowOf n = u.extractLsb' 3 4 →
    (unitMask n .w64).getLsbD u.toNat = decide ((u.extractLsb' 0 3).toNat / 4 = if oddReg n then 1 else 0) := by
  decide +kernel

theorem unitMask_w128 : ∀ (n : Reg) (u : BitVec 7), rowOf n = u.extractLsb' 3 4 →
    (unitMask n .w128).getLsbD u.toNat = true := by
  decide +kernel

/-- A change of one row leaves the units of the other rows, and the units of that row whose bits it keeps. -/
theorem Core.unit_setRow (k : Core) (r : BitVec 4) (v : Quad) (u : BitVec 7)
    (h : r = u.extractLsb' 3 4 → v.extractLsb' (16 * (u.extractLsb' 0 3).toNat) 16 =
      (k.row r).extractLsb' (16 * (u.extractLsb' 0 3).toNat) 16) :
    (k.setRow r v).unit u = k.unit u := by
  unfold Core.unit
  by_cases e : r = u.extractLsb' 3 4
  · have := h e
    subst e
    rw [Core.row_setRow_same, this]
  · rw [Core.row_setRow_ne _ _ e]

theorem bit_kept {n : Nat} {x : BitVec n} {p : Prop} [Decidable p] {c d : Nat} (hp : p) (hc : c = d) :
    (decide p && x.getLsbD c) = x.getLsbD d := by simp [hp, hc]

theorem Core.unit_setH (k : Core) (n : Reg) (v : Half) (u : BitVec 7)
    (h : (unitMask n .w16).getLsbD u.toNat = false) : (k.setH n v).unit u = k.unit u := by
  unfold Core.setH
  refine Core.unit_setRow _ _ _ _ fun e => ?_
  rw [unitMask_w16 n u e] at h
  have hj : (u.extractLsb' 0 3).toNat < 8 := (u.extractLsb' 0 3).isLt
  generalize (u.extractLsb' 0 3).toNat = j at *
  apply BitVec.eq_of_getLsbD_eq
  intro i hi
  split <;> rename_i ho <;>
    simp only [ho, if_true, if_false, decide_eq_false_iff_not, BitVec.getLsbD_extractLsb', hi, decide_true,
      Bool.true_and, BitVec.getLsbD_append, Bool.false_eq_true] at h ⊢ <;>
    split_ifs <;> first | rfl | omega | exact bit_kept (by omega) (by omega)

theorem Core.unit_setL (k : Core) (n : Reg) (v : Word) (u : BitVec 7)
    (h : (unitMask n .w32).getLsbD u.toNat = false) : (k.setL n v).unit u = k.unit u := by
  unfold Core.setL
  refine Core.unit_setRow _ _ _ _ fun e => ?_
  rw [unitMask_w32 n u e] at h
  have hj : (u.extractLsb' 0 3).toNat < 8 := (u.extractLsb' 0 3).isLt
  generalize (u.extractLsb' 0 3).toNat = j at *
  apply BitVec.eq_of_getLsbD_eq
  intro i hi
  split <;> rename_i ho <;>
    simp only [ho, if_true, if_false, decide_eq_false_iff_not, BitVec.getLsbD_extractLsb', hi, decide_true,
      Bool.true_and, BitVec.getLsbD_append, Bool.false_eq_true] at h ⊢ <;>
    split_ifs <;> first | rfl | omega | exact bit_kept (by omega) (by omega)

theorem Core.unit_setD (k : Core) (n : Reg) (v : Dbl) (u : BitVec 7)
    (h : (unitMask n .w64).getLsbD u.toNat = false) : (k.setD n v).unit u = k.unit u := by
  unfold Core.setD
  refine Core.unit_setRow _ _ _ _ fun e => ?_
  rw [unitMask_w64 n u e] at h
  have hj : (u.extractLsb' 0 3).toNat < 8 := (u.extractLsb' 0 3).isLt
  generalize (u.extractLsb' 0 3).toNat = j at *
  apply BitVec.eq_of_getLsbD_eq
  intro i hi
  split <;> rename_i ho <;>
    simp only [ho, if_true, if_false, decide_eq_false_iff_not, BitVec.getLsbD_extractLsb', hi, decide_true,
      Bool.true_and, BitVec.getLsbD_append, Bool.false_eq_true] at h ⊢ <;>
    split_ifs <;> first | rfl | omega | exact bit_kept (by omega) (by omega)

theorem Core.unit_setQ (k : Core) (n : Reg) (v : Quad) (u : BitVec 7)
    (h : (unitMask n .w128).getLsbD u.toNat = false) : (k.setQ n v).unit u = k.unit u := by
  unfold Core.setQ
  refine Core.unit_setRow _ _ _ _ fun e => ?_
  rw [unitMask_w128 n u e] at h
  cases h

/-- A register-file write of one view, as a frame (10_state.md R23..R26). -/
theorem frame_of_rows (σ : State) (f : Core → Core) (mask : BitVec 128)
    (hf : ∀ k, f k = { k with rows := (f k).rows })
    (hu : ∀ k u, mask.getLsbD u.toNat = false → (f k).unit u = k.unit u) : Frame σ (σ.onMe f) mask 0 0 := by
  have e : (σ.onMe f).me = { σ.me with rows := (f σ.me).rows } := by rw [State.me_onMe, ← hf]
  refine ⟨?_, ?_, ?_, ?_, ?_⟩
  · exact State.onMe_congr σ (by rw [e]; exact hf _)
  · intro u h; rw [State.me_onMe]; exact hu _ _ h
  · intro n _; rw [e]; rfl
  · intro j _; rw [e]
  · intro a; rw [State.mem_onMe]

theorem frame_setH (σ : State) (n : Reg) (v : Half) :
    Frame σ (σ.onMe fun k => k.setH n v) (unitMask n .w16) 0 0 :=
  frame_of_rows σ _ _ (fun _ => rfl) fun k u h => k.unit_setH n v u h

theorem frame_setL (σ : State) (n : Reg) (v : Word) :
    Frame σ (σ.onMe fun k => k.setL n v) (unitMask n .w32) 0 0 :=
  frame_of_rows σ _ _ (fun _ => rfl) fun k u h => k.unit_setL n v u h

theorem frame_setD (σ : State) (n : Reg) (v : Dbl) :
    Frame σ (σ.onMe fun k => k.setD n v) (unitMask n .w64) 0 0 :=
  frame_of_rows σ _ _ (fun _ => rfl) fun k u h => k.unit_setD n v u h

theorem frame_setQ (σ : State) (n : Reg) (v : Quad) :
    Frame σ (σ.onMe fun k => k.setQ n v) (unitMask n .w128) 0 0 :=
  frame_of_rows σ _ _ (fun _ => rfl) fun k u h => k.unit_setQ n v u h

end Sys2Proof.Machine
end

