-- ==== Sys2Proof/Laws/Frames.lean ====
section
/-! SUPPORT. Frames: composition, and the frame of each write to the register file, the accumulators and CCR. -/

namespace Sys2Proof.Machine

theorem Frame.refl (σ : State) (u : BitVec 128) (a : BitVec 16) (c : Half) : Frame σ σ u a c := by
  refine ⟨?_, fun _ _ => rfl, fun _ _ => rfl, fun _ _ => rfl, fun _ => rfl⟩
  obtain ⟨_, _, _, _, _, _, _, _, _, _, turn, _, _, _, _⟩ := σ
  cases turn <;> rfl

/-- A frame may be widened. -/
theorem Frame.mono {σ τ : State} {u u' : BitVec 128} {a a' : BitVec 16} {c c' : Half} (h : Frame σ τ u a c)
    (hu : ∀ n, u'.getLsbD n = false → u.getLsbD n = false) (ha : ∀ n, a'.getLsbD n = false → a.getLsbD n = false)
    (hc : ∀ n, c'.getLsbD n = false → c.getLsbD n = false) : Frame σ τ u' a' c' :=
  ⟨h.1, fun n e => h.2.1 n (hu _ e), fun n e => h.2.2.1 n (ha _ e), fun j e => h.2.2.2.1 j (hc _ e), h.2.2.2.2⟩

/-- Two writes one after the other. -/
theorem Frame.trans {σ τ ρ : State} {u u' : BitVec 128} {a a' : BitVec 16} {c c' : Half} (h : Frame σ τ u a c)
    (h' : Frame τ ρ u' a' c') : Frame σ ρ (u ||| u') (a ||| a') (c ||| c') := by
  obtain ⟨e, fu, fa, fc, fm⟩ := h
  obtain ⟨e', fu', fa', fc', fm'⟩ := h'
  refine ⟨?_, ?_, ?_, ?_, ?_⟩
  · exact e'.trans ((congrArg (fun x => State.onMe x _) e).trans (State.onMe_onMe _ _ _))
  · intro n hn
    rw [BitVec.getLsbD_or, Bool.or_eq_false_iff] at hn
    rw [fu' n hn.2, fu n hn.1]
  · intro n hn
    rw [BitVec.getLsbD_or, Bool.or_eq_false_iff] at hn
    rw [fa' n hn.2, fa n hn.1]
  · intro j hn
    rw [BitVec.getLsbD_or, Bool.or_eq_false_iff] at hn
    rw [fc' j hn.2, fc j hn.1]
  · intro b; rw [fm', fm]

/-- A change of CCR alone. -/
theorem frame_ccr (σ : State) (f : Core → Core) (mask : Half) (hf : ∀ k, f k = { k with ccr := (f k).ccr })
    (hc : ∀ k j, mask.getLsbD j = false → (f k).ccr.getLsbD j = k.ccr.getLsbD j) : Frame σ (σ.onMe f) 0 0 mask := by
  have e : (σ.onMe f).me = { σ.me with ccr := (f σ.me).ccr } := by rw [State.me_onMe, ← hf]
  refine ⟨?_, ?_, ?_, ?_, ?_⟩
  · exact State.onMe_congr σ (by rw [e]; exact hf _)
  · intro u _; rw [e]; rfl
  · intro n _; rw [e]; rfl
  · intro j h; rw [State.me_onMe]; exact hc _ _ h
  · intro a; rw [State.mem_onMe]

/-- A change of the accumulators alone. -/
theorem frame_acc (σ : State) (f : Core → Core) (mask : BitVec 16) (hf : ∀ k, f k = { k with acc := (f k).acc })
    (ha : ∀ k (n : BitVec 4), mask.getLsbD n.toNat = false → (f k).acL n = k.acL n) :
    Frame σ (σ.onMe f) 0 mask 0 := by
  have e : (σ.onMe f).me = { σ.me with acc := (f σ.me).acc } := by rw [State.me_onMe, ← hf]
  refine ⟨?_, ?_, ?_, ?_, ?_⟩
  · exact State.onMe_congr σ (by rw [e]; exact hf _)
  · intro u _; rw [e]; rfl
  · intro n h; rw [State.me_onMe]; exact ha _ _ h
  · intro j _; rw [e]
  · intro a; rw [State.mem_onMe]

/-- A single bit set: that bit holds the value, the others are kept. -/
theorem getLsbD_setBit {n : Nat} (v : BitVec n) (k j : Nat) (b : Bool) :
    (setBit v k b).getLsbD j = if j = k ∧ k < n then b else v.getLsbD j := by
  have e : BitVec.ofNat n (2 ^ k) = BitVec.twoPow n k := by
    apply BitVec.eq_of_toNat_eq
    simp only [BitVec.toNat_ofNat, BitVec.toNat_twoPow]
  unfold setBit
  rw [e]
  by_cases hj : j < n
  · by_cases hk : j = k
    · subst hk; cases b <;> simp [hj]
    · cases b <;> simp [hj, hk, BitVec.getElem_twoPow]
  · have h' : ¬(j = k ∧ k < n) := by omega
    rw [if_neg h', BitVec.getLsbD_of_ge _ _ (Nat.not_lt.mp hj), BitVec.getLsbD_of_ge _ _ (Nat.not_lt.mp hj)]

theorem frame_setC (σ : State) (b : Bool) : Frame σ (σ.setC b) 0 0 (BitVec.twoPow 16 σ.cfg.ccrC.toNat) := by
  refine frame_ccr σ _ _ (fun _ => rfl) fun k j h => ?_
  simp only [getLsbD_setBit]
  split
  · rename_i e; obtain ⟨rfl, e⟩ := e; simp [e] at h
  · rfl

theorem frame_setV (σ : State) (b : Bool) : Frame σ (σ.setV b) 0 0 (BitVec.twoPow 16 σ.cfg.ccrV.toNat) := by
  refine frame_ccr σ _ _ (fun _ => rfl) fun k j h => ?_
  simp only [getLsbD_setBit]
  split
  · rename_i e; obtain ⟨rfl, e⟩ := e; simp [e] at h
  · rfl

theorem State.flagC_setC (σ : State) (b : Bool) : (σ.setC b).flagC = b := by
  unfold State.flagC State.setC
  rw [State.me_onMe, State.cfg_onMe, getLsbD_setBit]
  simp [σ.cfg.ccrC.isLt]

theorem State.flagV_setV (σ : State) (b : Bool) : (σ.setV b).flagV = b := by
  unfold State.flagV State.setV
  rw [State.me_onMe, State.cfg_onMe, getLsbD_setBit]
  simp [σ.cfg.ccrV.isLt]

theorem frame_setAcL (σ : State) (n : BitVec 4) (v : Word) :
    Frame σ (σ.onMe fun k => k.setAcL n v) 0 (BitVec.twoPow 16 n.toNat) 0 := by
  refine frame_acc σ _ _ (fun _ => rfl) fun k m h => k.acL_setAcL_ne v ?_
  rintro rfl
  simp [n.isLt] at h

/-! ### The 64-bit accumulators -/

theorem Core.acc64_setAcc64_same (k : Core) (n : BitVec 3) (v : Dbl) : (k.setAcc64 n v).acc64 n = v := by
  have h : (n ++ 1#1 : BitVec 4) ≠ (n ++ 0#1 : BitVec 4) := by revert n; decide
  unfold Core.acc64 Core.setAcc64
  rw [Core.acL_setAcL_same, Core.acL_setAcL_ne _ _ h, Core.acL_setAcL_same]
  apply BitVec.eq_of_getLsbD_eq
  intro i hi
  simp only [BitVec.getLsbD_append, BitVec.getLsbD_extractLsb', Nat.zero_add]
  split_ifs with h1
  · simp [h1]
  · have : i - 32 < 32 := by omega
    simp only [this, decide_true, Bool.true_and]
    congr 1; omega

theorem Core.acL_setAcc64_ne (k : Core) (n : BitVec 3) (v : Dbl) (m : BitVec 4)
    (h : (accMask n).getLsbD m.toNat = false) : (k.setAcc64 n v).acL m = k.acL m := by
  have h0 : (n ++ 0#1 : BitVec 4) ≠ m ∧ (n ++ 1#1 : BitVec 4) ≠ m := by revert n m; decide
  unfold Core.setAcc64
  rw [Core.acL_setAcL_ne _ _ h0.2, Core.acL_setAcL_ne _ _ h0.1]

theorem Core.acc64_setAcc64_ne (k : Core) {n m : BitVec 3} (v : Dbl) (h : n ≠ m) :
    (k.setAcc64 n v).acc64 m = k.acc64 m := by
  have h0 : (accMask n).getLsbD (m ++ 0#1 : BitVec 4).toNat = false ∧
      (accMask n).getLsbD (m ++ 1#1 : BitVec 4).toNat = false := by revert n m; decide
  unfold Core.acc64
  rw [Core.acL_setAcc64_ne _ _ _ _ h0.1, Core.acL_setAcc64_ne _ _ _ _ h0.2]

theorem frame_setAcc64 (σ : State) (n : BitVec 3) (v : Dbl) :
    Frame σ (σ.onMe fun k => k.setAcc64 n v) 0 (accMask n) 0 :=
  frame_acc σ _ _ (fun _ => rfl) fun k m h => k.acL_setAcc64_ne n v m h

/-- What a list of accumulations into distinct 64-bit accumulators does: each gains its number modulo 2^64, all else is
unchanged (44_mac.md R275). -/
theorem accumulates_of {i : Instr} {σ : State} {adds : List (BitVec 3 × Int)} {ws : List Write}
    (h : exec i σ = .next (commitAll ws σ)) (hw : ws = adds.map fun p => accum σ p.1 p.2)
    (hd : (adds.map (·.1)).Nodup) : Accumulates i σ adds := by
  subst hw
  refine ⟨_, h, ?_⟩
  clear h
  suffices ∀ ρ : State, (∀ p ∈ adds, ρ.me.acc64 p.1 = σ.me.acc64 p.1) →
      (∀ p ∈ adds, (commitAll (adds.map fun p => accum σ p.1 p.2) ρ).me.acc64 p.1 =
        BitVec.ofInt 64 ((σ.me.acc64 p.1).toInt + p.2)) ∧
      (∀ n, n ∉ adds.map (·.1) → (commitAll (adds.map fun p => accum σ p.1 p.2) ρ).me.acc64 n = ρ.me.acc64 n) ∧
      Frame ρ (commitAll (adds.map fun p => accum σ p.1 p.2) ρ) 0 (adds.foldr (fun p m => accMask p.1 ||| m) 0) 0 by
    obtain ⟨h1, _, h3⟩ := this σ fun _ _ => rfl
    exact ⟨h1, h3⟩
  induction adds with
  | nil => exact fun ρ _ => ⟨by simp, fun _ _ => rfl, Frame.refl _ _ _ _⟩
  | cons p rest ih =>
    intro ρ hρ
    rw [List.map_cons, List.nodup_cons] at hd
    have key : (ρ.onMe fun k => k.setAcc64 p.1 (wrap 64 ((σ.me.acc64 p.1).toInt + p.2))).me =
        ρ.me.setAcc64 p.1 (wrap 64 ((σ.me.acc64 p.1).toInt + p.2)) := State.me_onMe _ _
    obtain ⟨h1, h2, h3⟩ := ih hd.2 (ρ.onMe fun k => k.setAcc64 p.1 (wrap 64 ((σ.me.acc64 p.1).toInt + p.2)))
      fun q hq => by
        rw [key, Core.acc64_setAcc64_ne _ _ (fun e => hd.1 (by rw [e]; exact List.mem_map_of_mem hq))]
        exact hρ q (List.mem_cons_of_mem _ hq)
    refine ⟨?_, ?_, ?_⟩
    · intro q hq
      rcases List.mem_cons.mp hq with rfl | hq
      · exact (h2 _ hd.1).trans (by rw [key, Core.acc64_setAcc64_same]; rfl)
      · exact h1 q hq
    · intro n hn
      rw [List.map_cons, List.mem_cons, not_or] at hn
      exact (h2 n hn.2).trans (by rw [key, Core.acc64_setAcc64_ne _ _ (Ne.symm hn.1)])
    · have := (frame_setAcc64 ρ p.1 (wrap 64 ((σ.me.acc64 p.1).toInt + p.2))).trans h3
      simp at this
      exact this

end Sys2Proof.Machine
end

