-- ==== Sys2Proof/Laws/Memory.lean ====
section
/-! SUPPORT. The memory: reading what was written, reading elsewhere, and the canonical form, which every operation
that writes memory keeps and which the memory after reset has. -/

namespace Sys2Proof.Machine

/-! ### One byte -/

/-- In a canonical list every address below the bound reads as unlisted. -/
theorem readByte_of_rising : ∀ (m : List Host.Cell) (b a : Nat), risingAbove (some b) m = true → a ≤ b →
    readByte m a = unlisted
  | [], _, _, _, _ => rfl
  | (x, v) :: rest, b, a, h, ha => by
    simp only [risingAbove, Bool.and_eq_true, decide_eq_true_eq] at h
    have hx : x ≠ a := by omega
    rw [readByte, if_neg hx]
    exact readByte_of_rising rest x a h.2 (by omega)

theorem rising_mono : ∀ (m : List Host.Cell) (b c : Nat), risingAbove (some b) m = true → c ≤ b →
    risingAbove (some c) m = true
  | [], _, _, _, _ => rfl
  | (x, v) :: rest, b, c, h, hc => by
    simp only [risingAbove, Bool.and_eq_true, decide_eq_true_eq] at h ⊢
    exact ⟨⟨by omega, h.1.2⟩, h.2⟩

theorem rising_none {m : List Host.Cell} {b : Nat} (h : risingAbove (some b) m = true) :
    risingAbove none m = true := by
  cases m with
  | nil => rfl
  | cons c rest => obtain ⟨x, v⟩ := c; simp only [risingAbove, Bool.and_eq_true] at h ⊢; exact ⟨h.1.2, h.2⟩

theorem writeByte_rising : ∀ (m : List Host.Cell) (b a : Nat) (v : BitVec 8), risingAbove (some b) m = true →
    b < a → risingAbove (some b) (writeByte m a v) = true
  | [], b, a, v, _, hb => by
    unfold writeByte
    split
    · rfl
    · rename_i hv; simp [risingAbove, hb, hv]
  | (x, y) :: rest, b, a, v, h, hb => by
    have h' := h
    simp only [risingAbove, Bool.and_eq_true, decide_eq_true_eq] at h
    unfold writeByte
    split_ifs with h1 h2 h3 h4
    · exact h'
    · simp only [risingAbove, Bool.and_eq_true, decide_eq_true_eq]
      exact ⟨⟨hb, by simpa using h2⟩, ⟨h1, h.1.2⟩, h.2⟩
    · exact rising_mono _ _ _ h.2 (by omega)
    · simp only [risingAbove, Bool.and_eq_true, decide_eq_true_eq]
      exact ⟨⟨hb, by simpa using h4⟩, by rw [h3]; exact h.2⟩
    · simp only [risingAbove, Bool.and_eq_true, decide_eq_true_eq]
      exact ⟨⟨h.1.1, h.1.2⟩, writeByte_rising rest x a v h.2 (by omega)⟩

/-- A write of one byte keeps the canonical form. -/
theorem writeByte_wf (m : List Host.Cell) (a : Nat) (v : BitVec 8) (h : Memory.wf m = true) :
    Memory.wf (writeByte m a v) = true := by
  cases m with
  | nil => unfold writeByte; split <;> simp_all [Memory.wf, risingAbove]
  | cons c rest =>
    obtain ⟨x, y⟩ := c
    have h' := h
    simp only [Memory.wf, risingAbove, Bool.and_eq_true] at h
    unfold writeByte
    split_ifs with h1 h2 h3 h4
    · exact h'
    · simp only [Memory.wf, risingAbove, Bool.and_eq_true, decide_eq_true_eq]
      exact ⟨by simpa using h2, ⟨h1, h.1⟩, h.2⟩
    · exact rising_none h.2
    · simp only [Memory.wf, risingAbove, Bool.and_eq_true]
      exact ⟨by simpa using h4, by rw [h3]; exact h.2⟩
    · simp only [Memory.wf, risingAbove, Bool.and_eq_true]
      exact ⟨h.1, writeByte_rising _ _ _ _ h.2 (by omega)⟩

/-- What a read gives after a write, in a canonical list above a bound. -/
theorem readByte_writeByte_rising : ∀ (m : List Host.Cell) (b a c : Nat) (v : BitVec 8),
    risingAbove (some b) m = true → b < a →
    readByte (writeByte m a v) c = if c = a then v else readByte m c
  | [], b, a, c, v, _, _ => by
    unfold writeByte
    split_ifs with h1 h2 h2
    · rw [readByte, h1]
    · rfl
    · rw [readByte, if_pos h2.symm]
    · rw [show readByte [(a, v)] c = if a = c then v else unlisted from rfl, if_neg (fun e => h2 e.symm)]
      rfl
  | (x, y) :: rest, b, a, c, v, h, hb => by
    simp only [risingAbove, Bool.and_eq_true, decide_eq_true_eq] at h
    have low : a ≤ x → readByte rest a = unlisted := fun e => readByte_of_rising rest x a h.2 e
    unfold writeByte
    split_ifs with h1 h2 h3 h4 h5 h6 h7 h8
    · subst h3
      rw [readByte, if_neg (by omega), low (by omega), h2]
    · rfl
    · subst h4; rw [readByte, if_pos rfl]
    · rw [readByte, if_neg (fun e => h4 e.symm)]
    · rw [h7, low (by omega), h6]
    · rw [readByte, if_neg (by omega)]
    · rw [readByte, if_pos h8.symm]
    · rw [readByte, if_neg (fun e => h8 e.symm), readByte, if_neg (by omega)]
    · rename_i h9
      rw [readByte, if_neg (by omega), readByte_writeByte_rising rest x a c v h.2 (by omega), if_pos h9]
    · rename_i h9
      rw [readByte, readByte, readByte_writeByte_rising rest x a c v h.2 (by omega), if_neg h9]

/-- What a read of one byte gives after a write of one byte. -/
theorem readByte_writeByte (m : List Host.Cell) (a c : Nat) (v : BitVec 8) (h : Memory.wf m = true) :
    readByte (writeByte m a v) c = if c = a then v else readByte m c := by
  cases m with
  | nil =>
    unfold writeByte
    split_ifs with h1 h2 h2
    · rw [readByte, h1]
    · rfl
    · rw [readByte, if_pos h2.symm]
    · rw [show readByte [(a, v)] c = if a = c then v else unlisted from rfl, if_neg (fun e => h2 e.symm)]
      rfl
  | cons p rest =>
    obtain ⟨x, y⟩ := p
    simp only [Memory.wf, risingAbove, Bool.and_eq_true] at h
    have low : a ≤ x → readByte rest a = unlisted := fun e => readByte_of_rising rest x a h.2 e
    unfold writeByte
    split_ifs with h1 h2 h3 h4 h5 h6 h7 h8
    · subst h3
      rw [readByte, if_neg (by omega), low (by omega), h2]
    · rfl
    · subst h4; rw [readByte, if_pos rfl]
    · rw [readByte, if_neg (fun e => h4 e.symm)]
    · rw [h7, low (by omega), h6]
    · rw [readByte, if_neg (by omega)]
    · rw [readByte, if_pos h8.symm]
    · rw [readByte, if_neg (fun e => h8 e.symm), readByte, if_neg (by omega)]
    · rename_i h9
      rw [readByte, if_neg (by omega), readByte_writeByte_rising rest x a c v h.2 (by omega), if_pos h9]
    · rename_i h9
      rw [readByte, readByte, readByte_writeByte_rising rest x a c v h.2 (by omega), if_neg h9]

/-! ### Words -/

/-- A write of a word keeps the canonical form. -/
theorem writeWordAt_wf (m : List Host.Cell) (a : Nat) (v : Word) (h : Memory.wf m = true) :
    Memory.wf (writeWordAt m a v) = true :=
  writeByte_wf _ _ _ (writeByte_wf _ _ _ (writeByte_wf _ _ _ (writeByte_wf _ _ _ h)))

/-- The byte a word write leaves at an address. -/
theorem readByte_writeWordAt (m : List Host.Cell) (a c : Nat) (v : Word) (h : Memory.wf m = true) :
    readByte (writeWordAt m a v) c = if a ≤ c ∧ c < a + 4 then bp v (c - a) else readByte m c := by
  unfold writeWordAt
  rw [readByte_writeByte _ _ _ _ (writeByte_wf _ _ _ (writeByte_wf _ _ _ (writeByte_wf _ _ _ h))),
    readByte_writeByte _ _ _ _ (writeByte_wf _ _ _ (writeByte_wf _ _ _ h)),
    readByte_writeByte _ _ _ _ (writeByte_wf _ _ _ h), readByte_writeByte _ _ _ _ h]
  split_ifs <;> first | rfl | omega | (congr 1; omega)

/-- The bytes of a word, put together again. -/
theorem bytes_of_word (v : Word) : bp v 3 ++ bp v 2 ++ bp v 1 ++ bp v 0 = v := by
  apply BitVec.eq_of_getLsbD_eq
  intro i hi
  simp only [bp, BitVec.getLsbD_append, BitVec.getLsbD_extractLsb']
  split_ifs <;> rw [decide_eq_true (by omega), Bool.true_and] <;> exact congrArg _ (by omega)

/-- A word written reads back. -/
theorem readWordAt_writeWordAt (m : List Host.Cell) (a : Nat) (v : Word) (h : Memory.wf m = true) :
    readWordAt (writeWordAt m a v) a = v := by
  unfold readWordAt
  rw [readByte_writeWordAt _ _ _ _ h, readByte_writeWordAt _ _ _ _ h, readByte_writeWordAt _ _ _ _ h,
    readByte_writeWordAt _ _ _ _ h, if_pos (by omega), if_pos (by omega), if_pos (by omega), if_pos (by omega)]
  conv_rhs => rw [← bytes_of_word v]
  simp

/-- A word whose bytes lie elsewhere is unchanged. -/
theorem readWordAt_writeWordAt_ne (m : List Host.Cell) (a b : Nat) (v : Word) (h : Memory.wf m = true)
    (hb : b + 4 ≤ a ∨ a + 4 ≤ b) : readWordAt (writeWordAt m a v) b = readWordAt m b := by
  unfold readWordAt
  rw [readByte_writeWordAt _ _ _ _ h, readByte_writeWordAt _ _ _ _ h, readByte_writeWordAt _ _ _ _ h,
    readByte_writeWordAt _ _ _ _ h, if_neg (by omega), if_neg (by omega), if_neg (by omega), if_neg (by omega)]

/-- Different XYRAM words have different bytes (20_memory.md R92). -/
theorem xyAddr_apart (w w' : Half) (h : w ≠ w') : xyAddr w' + 4 ≤ xyAddr w ∨ xyAddr w + 4 ≤ xyAddr w' := by
  have hn : w.toNat ≠ w'.toNat := fun e => h (BitVec.eq_of_toNat_eq e)
  have hw := w.isLt
  have hw' := w'.isLt
  have key : ∀ x : Half, x.getLsbD 15 = decide (0x8000 ≤ x.toNat) := by
    intro x
    have := x.isLt
    rw [BitVec.getLsbD, Nat.testBit_eq_decide_div_mod_eq]
    congr 1
    simp only [eq_iff_iff]
    omega
  unfold xyAddr
  rw [key, key]
  simp only [decide_eq_true_eq]
  split_ifs <;> omega

/-! ### The state -/

theorem State.setXy_wf (σ : State) (w : Half) (v : Word) (h : Memory.wf σ.mem = true) :
    Memory.wf (σ.setXy w v).mem = true := writeWordAt_wf _ _ _ h

/-- XYRAM read after a write (20_memory.md R100). -/
theorem State.xy_setXy (σ : State) (w w' : Half) (v : Word) (h : Memory.wf σ.mem = true) :
    (σ.setXy w v).xy w' = if w' = w then v else σ.xy w' := by
  unfold State.xy State.setXy
  split_ifs with e
  · subst e; exact readWordAt_writeWordAt _ _ _ h
  · exact readWordAt_writeWordAt_ne _ _ _ _ h (xyAddr_apart _ _ (Ne.symm e))

theorem landAll_wf : ∀ (l : List FarWrite) (σ : State), Memory.wf σ.mem = true →
    Memory.wf (landAll l σ).mem = true
  | [], _, h => h
  | e :: rest, σ, h => landAll_wf rest _ (σ.setXy_wf e.addr e.val h)

theorem State.setPram_wf (σ : State) (c : CoreId) (p : Nat) (v : Word) (h : Memory.wf σ.mem = true) :
    Memory.wf (σ.setPram c p v).mem = true := by
  unfold State.setPram
  rw [State.mem_onCore]
  exact writeWordAt_wf _ _ _ h

theorem State.landOld_wf (σ : State) (c : CoreId) (h : Memory.wf σ.mem = true) :
    Memory.wf (σ.landOld c).mem = true := by
  unfold State.landOld
  rw [State.mem_onCore]
  exact landAll_wf _ _ h

theorem State.landFirst_wf (σ : State) (c : CoreId) (h : Memory.wf σ.mem = true) :
    Memory.wf (σ.landFirst c).mem = true := by
  unfold State.landFirst
  split
  · exact h
  · rw [State.mem_onCore]; exact State.setXy_wf _ _ _ h

theorem State.landEvery_wf (σ : State) (c : CoreId) (h : Memory.wf σ.mem = true) :
    Memory.wf (σ.landEvery c).mem = true := by
  unfold State.landEvery
  rw [State.mem_onCore]
  exact landAll_wf _ _ h

theorem State.writeOne_wf (σ : State) (w : Half) (v : Word) (h : Memory.wf σ.mem = true) :
    Memory.wf (σ.writeOne w v).mem = true := by
  unfold State.writeOne
  split
  · rw [State.mem_onMe]; exact h
  · exact State.setXy_wf _ _ _ h

/-- The memory after reset is canonical: nothing is listed. -/
theorem reset_memory_wf : Memory.wf State.reset.mem = true := rfl

end Sys2Proof.Machine
end

