-- ==== Sys2Proof/Laws/Invariant.lean ====
section
/-! SUPPORT. What the pieces of a step keep of the invariant of Safety.lean: the writes of an instruction, the raising of
requests, the landing of far writes. -/

namespace Sys2Proof.Machine

/-- The invariant of a core reads eight of its fields. -/
theorem Core.Inv.congr {cfg : Config} {c : CoreId} {k k' : Core} (h : k.Inv cfg c) (h1 : k'.dcsr = k.dcsr)
    (h2 : k'.irqr = k.irqr) (h3 : k'.arbr = k.arbr) (h4 : k'.dbDcsr = k.dbDcsr) (h5 : k'.held = k.held)
    (h6 : k'.pcstack = k.pcstack) (h7 : k'.hist = k.hist) (h8 : k'.farq = k.farq) : k'.Inv cfg c := by
  unfold Core.Inv Core.wait at *
  rw [h1, h2, h3, h4, h5, h6, h7, h8]
  exact h

/-- The invariant of the core with a given number. -/
theorem State.Inv.core {σ : State} (h : σ.Inv) (c : CoreId) : (σ.core c).Inv σ.cfg c := by
  cases c
  · exact h.2.1
  · exact h.2.2.1

/-- A change of one core that keeps the core's invariant. -/
theorem State.Inv.onCore {σ : State} (h : σ.Inv) (c : CoreId) {f : Core → Core}
    (hf : (f (σ.core c)).Inv σ.cfg c) : (σ.onCore c f).Inv := by
  obtain ⟨h1, h2, h3, h4, h5⟩ := h
  cases c
  · exact ⟨h1, hf, h3, h4, h5⟩
  · exact ⟨h1, h2, hf, h4, h5⟩

/-- A change of the core whose turn it is. -/
theorem State.Inv.onMe {σ : State} (h : σ.Inv) {f : Core → Core} (hf : (f σ.me).Inv σ.cfg σ.turn) :
    (σ.onMe f).Inv := h.onCore σ.turn hf

/-- A change of memory that keeps its canonical form. -/
theorem State.Inv.withMem {σ : State} (h : σ.Inv) {m : List Host.Cell} (hm : Memory.wf m = true) :
    State.Inv { σ with mem := m } := ⟨hm, h.2⟩

/-- A value within a mask has its 1 bits in the mask. -/
theorem within_iff {n : Nat} {mask v : BitVec n} :
    within mask v = true ↔ ∀ i, v.getLsbD i = true → mask.getLsbD i = true := by
  unfold within
  rw [beq_iff_eq]
  constructor
  · intro h i hv
    have hi : i < n := BitVec.lt_of_getLsbD hv
    have := congrArg (fun x => x.getLsbD i) h
    simp [hi, hv] at this
    exact this
  · intro h
    apply BitVec.eq_of_getLsbD_eq
    intro i hi
    have := h i
    cases hv : v.getLsbD i <;> simp_all

/-- A bit inside a mask may be set or cleared. -/
theorem within_setBit {n : Nat} {mask v : BitVec n} {j : Nat} (b : Bool) (h : within mask v = true)
    (hj : mask.getLsbD j = true) : within mask (setBit v j b) = true := by
  rw [within_iff] at *
  intro i hi
  rw [getLsbD_setBit] at hi
  split_ifs at hi with hij
  · exact hij.1 ▸ hj
  · exact h i hi

/-- Two values within a mask: so is their union. -/
theorem within_or {n : Nat} {mask v w : BitVec n} (hv : within mask v = true) (hw : within mask w = true) :
    within mask (v ||| w) = true := by
  rw [within_iff] at *
  intro i hi
  rw [BitVec.getLsbD_or, Bool.or_eq_true] at hi
  exact hi.elim (hv i) (hw i)

/-- What is cut by a mask is within it. -/
theorem within_and {n : Nat} (mask v : BitVec n) : within mask (v &&& mask) = true := by
  rw [within_iff]
  intro i hi
  rw [BitVec.getLsbD_and, Bool.and_eq_true] at hi
  exact hi.2

/-! ### Writes -/

/-- A write that gives IRQR and ARBR no reserved bit. -/
def Write.Tame : Write → Prop
  | .ctl .irqr v => within irqrDefined v = true
  | .ctl .arbr v => within arbrDefined (v.extractLsb' 0 16) = true
  | _ => True

/-- A write of DCSR keeps the reserved bits 0 and WAIT. -/
theorem Core.Inv.writeDcsr {cfg : Config} {c : CoreId} {k : Core} (h : k.Inv cfg c) (v : Half) :
    (k.writeDcsr v).Inv cfg c := by
  obtain ⟨h1, h2, h3, h4, h5, h6, h7, h8⟩ := h
  refine ⟨?_, h2, h3, h4, ?_, h6, h7, h8⟩
  · rw [within_iff]
    intro i hi
    simp only [Core.writeDcsr, BitVec.getLsbD_or, BitVec.getLsbD_and, Bool.or_eq_true, Bool.and_eq_true] at hi
    have hlt : i < 16 := by
      rcases hi with h | h <;> exact BitVec.lt_of_getLsbD h.2
    interval_cases i <;> simp_all [dcsrDefined]
  · refine Eq.trans ?_ h5
    simp [Core.wait, Core.writeDcsr]

/-- A write of a control register keeps the invariant when it gives IRQR and ARBR no reserved bit. -/
theorem Core.Inv.setCtl {cfg : Config} {c : CoreId} {k : Core} (h : k.Inv cfg c) (rc : CReg) (v : Word)
    (hw : Write.Tame (.ctl rc v)) : (k.setCtl rc v).Inv cfg c := by
  cases rc
  case dcsr => exact h.writeDcsr _
  case irqr => exact ⟨h.1, hw, h.2.2⟩
  case arbr => exact ⟨h.1, h.2.1, hw, h.2.2.2⟩
  all_goals exact h.congr rfl rfl rfl rfl rfl rfl rfl rfl

/-- A raised request keeps the invariant. -/
theorem State.Inv.raise {σ : State} (h : σ.Inv) (c : CoreId) {k : Nat} (hk : irqrDefined.getLsbD k = true) :
    (σ.raise c k).Inv := by
  refine h.onCore c ?_
  obtain ⟨h1, h2, h3⟩ := h.core c
  exact ⟨h1, within_setBit _ h2 hk, h3⟩

/-- A stack error keeps the invariant. -/
theorem Core.Inv.stackFail {cfg : Config} {c : CoreId} {k : Core} (h : k.Inv cfg c) : k.stackFail.Inv cfg c := by
  obtain ⟨h1, h2, h3, h4, h5, h6⟩ := h
  refine ⟨within_setBit _ h1 (by decide), h2, h3, h4, ?_, h6⟩
  rw [Core.wait, Core.stackFail] at *
  simp only [getLsbD_setBit]
  exact h5

/-- The return from an interrupt keeps the invariant. -/
theorem Core.Inv.returnIsr {cfg : Config} {c : CoreId} {k : Core} (h : k.Inv cfg c) : k.returnIsr.Inv cfg c := by
  unfold Core.returnIsr
  split
  · exact h.stackFail
  · rename_i p rest e
    obtain ⟨h1, h2, h3, h4, h5, h6, h7⟩ := h
    refine ⟨h1, h2, h3, h4, h5, ?_, h7⟩
    rw [e] at h6
    exact Nat.le_of_succ_le h6

/-- The landing of the far writes that were pending at an interrupt keeps the invariant. -/
theorem State.Inv.landOld {σ : State} (h : σ.Inv) (c : CoreId) : (σ.landOld c).Inv := by
  have hl : ∀ (l : List FarWrite) (ρ : State), ρ.Inv → (landAll l ρ).Inv ∧ (landAll l ρ).core c = ρ.core c := by
    intro l
    induction l with
    | nil => exact fun ρ hρ => ⟨hρ, rfl⟩
    | cons e rest ih =>
      intro ρ hρ
      have := ih (ρ.setXy e.addr e.val) (hρ.withMem (writeWordAt_wf _ _ _ hρ.1))
      refine ⟨this.1, this.2.trans ?_⟩
      cases c <;> rfl
  obtain ⟨h1, h2⟩ := hl ((σ.core c).farq.filter (·.old)) σ h
  refine h1.onCore c ?_
  obtain ⟨a1, a2, a3, a4, a5, a6, a7, a8⟩ := h1.core c
  exact ⟨a1, a2, a3, a4, a5, a6, a7, fun e he => a8 e (List.mem_of_mem_filter he)⟩

/-- A tame write keeps the invariant. -/
theorem State.Inv.commit {σ : State} (h : σ.Inv) (w : Write) (hw : w.Tame) : (commit w σ).Inv := by
  cases w
  case word a v =>
    simp only [Machine.commit, State.writeOne]
    split
    · rename_i hf
      refine h.onMe ?_
      obtain ⟨a1, a2, a3, a4, a5, a6, a7, a8⟩ := h.core σ.turn
      refine ⟨a1, a2, a3, a4, a5, a6, a7, fun e he => ?_⟩
      rcases List.mem_append.1 he with he | he
      · exact a8 e he
      · rw [List.mem_singleton.1 he]; exact hf
    · exact h.withMem (writeWordAt_wf _ _ _ h.1)
  case ctl rc v => exact h.onMe ((h.core σ.turn).setCtl rc v hw)
  case xWrite k v => exact h
  case xRead k => exact h
  case draw => exact h
  case block k b => exact h
  case land => exact h.landOld σ.turn
  case leave => exact h.onMe (h.core σ.turn).returnIsr
  case halt =>
    refine h.onMe ?_
    obtain ⟨a1, a2, a3, a4, a5, a6⟩ := h.core σ.turn
    refine ⟨within_setBit _ (within_setBit _ a1 (by decide)) (by decide), a2, a3, a4, ?_, a6⟩
    rw [Core.wait] at *
    simp only [getLsbD_setBit]
    exact a5
  case dstart v =>
    simp only [Machine.commit, State.dstart]
    have hb : irqrDefined.getLsbD (if σ.turn.bit then 25 else 24) = true := by split <;> decide
    have h0 : State.Inv { σ with dmaStarts := σ.dmaStarts ++
      ([0, 1, 2, 3] : List (BitVec 2)).filter fun k => v.getLsbD k.toNat } := h
    split
    · split
      · exact (h0.raise _ hb).raise _ hb
      · exact h0.raise _ hb
    · split
      · exact h0.raise _ hb
      · exact h0
  all_goals exact h.onMe ((h.core σ.turn).congr rfl rfl rfl rfl rfl rfl rfl rfl)

/-- Tame writes keep the invariant. -/
theorem State.Inv.commitAll : ∀ {σ : State} (_ : σ.Inv) (ws : List Write) (_ : ∀ w ∈ ws, w.Tame),
    (commitAll ws σ).Inv
  | _, h, [], _ => h
  | _, h, w :: rest, hw =>
    State.Inv.commitAll (h.commit w (hw w List.mem_cons_self)) rest fun x hx => hw x (List.mem_cons_of_mem w hx)

end Sys2Proof.Machine
end

