-- ==== Sys2Proof/Laws/Lanes.lean ====
section
/-! SUPPORT. Parts of packed values, and what the operand forms answer: one lemma per shared operation. -/

namespace Sys2Proof.Machine

/-! ### Parts of a packed value -/

/-- The parts of two halfwords. -/
theorem hp_two16 (x1 x0 : Half) :
    hp (two16 x1 x0) 1 = x1 ∧ hp (two16 x1 x0) 0 = x0 := by
  refine ⟨?_, ?_⟩ <;> apply BitVec.eq_of_getLsbD_eq <;> intro i hi <;>
    simp only [hp, two16, BitVec.getLsbD_extractLsb', BitVec.getLsbD_append, hi, decide_true, Bool.true_and] <;>
    split_ifs <;> first | omega | exact congrArg _ (by omega)

/-- The parts of four halfwords. -/
theorem hp_four16 (x3 x2 x1 x0 : Half) :
    hp (four16 x3 x2 x1 x0) 3 = x3 ∧ hp (four16 x3 x2 x1 x0) 2 = x2 ∧
    hp (four16 x3 x2 x1 x0) 1 = x1 ∧ hp (four16 x3 x2 x1 x0) 0 = x0 := by
  refine ⟨?_, ?_, ?_, ?_⟩ <;> apply BitVec.eq_of_getLsbD_eq <;> intro i hi <;>
    simp only [hp, four16, BitVec.getLsbD_extractLsb', BitVec.getLsbD_append, hi, decide_true, Bool.true_and] <;>
    split_ifs <;> first | omega | exact congrArg _ (by omega)

/-- The parts of eight halfwords. -/
theorem hp_eight16 (x7 x6 x5 x4 x3 x2 x1 x0 : Half) :
    hp (eight16 x7 x6 x5 x4 x3 x2 x1 x0) 7 = x7 ∧ hp (eight16 x7 x6 x5 x4 x3 x2 x1 x0) 6 = x6 ∧
    hp (eight16 x7 x6 x5 x4 x3 x2 x1 x0) 5 = x5 ∧ hp (eight16 x7 x6 x5 x4 x3 x2 x1 x0) 4 = x4 ∧
    hp (eight16 x7 x6 x5 x4 x3 x2 x1 x0) 3 = x3 ∧ hp (eight16 x7 x6 x5 x4 x3 x2 x1 x0) 2 = x2 ∧
    hp (eight16 x7 x6 x5 x4 x3 x2 x1 x0) 1 = x1 ∧ hp (eight16 x7 x6 x5 x4 x3 x2 x1 x0) 0 = x0 := by
  refine ⟨?_, ?_, ?_, ?_, ?_, ?_, ?_, ?_⟩ <;> apply BitVec.eq_of_getLsbD_eq <;> intro i hi <;>
    simp only [hp, eight16, BitVec.getLsbD_extractLsb', BitVec.getLsbD_append, hi, decide_true, Bool.true_and] <;>
    split_ifs <;> first | omega | exact congrArg _ (by omega)

/-- The parts of two words. -/
theorem wp_two32 (x1 x0 : Word) :
    wp (two32 x1 x0) 1 = x1 ∧ wp (two32 x1 x0) 0 = x0 := by
  refine ⟨?_, ?_⟩ <;> apply BitVec.eq_of_getLsbD_eq <;> intro i hi <;>
    simp only [wp, two32, BitVec.getLsbD_extractLsb', BitVec.getLsbD_append, hi, decide_true, Bool.true_and] <;>
    split_ifs <;> first | omega | exact congrArg _ (by omega)

/-- The parts of four words. -/
theorem wp_four32 (x3 x2 x1 x0 : Word) :
    wp (four32 x3 x2 x1 x0) 3 = x3 ∧ wp (four32 x3 x2 x1 x0) 2 = x2 ∧
    wp (four32 x3 x2 x1 x0) 1 = x1 ∧ wp (four32 x3 x2 x1 x0) 0 = x0 := by
  refine ⟨?_, ?_, ?_, ?_⟩ <;> apply BitVec.eq_of_getLsbD_eq <;> intro i hi <;>
    simp only [wp, four32, BitVec.getLsbD_extractLsb', BitVec.getLsbD_append, hi, decide_true, Bool.true_and] <;>
    split_ifs <;> first | omega | exact congrArg _ (by omega)

/-- The parts of eight bytes. -/
theorem bp_eight8 (x7 x6 x5 x4 x3 x2 x1 x0 : BitVec 8) :
    bp (eight8 x7 x6 x5 x4 x3 x2 x1 x0) 7 = x7 ∧ bp (eight8 x7 x6 x5 x4 x3 x2 x1 x0) 6 = x6 ∧
    bp (eight8 x7 x6 x5 x4 x3 x2 x1 x0) 5 = x5 ∧ bp (eight8 x7 x6 x5 x4 x3 x2 x1 x0) 4 = x4 ∧
    bp (eight8 x7 x6 x5 x4 x3 x2 x1 x0) 3 = x3 ∧ bp (eight8 x7 x6 x5 x4 x3 x2 x1 x0) 2 = x2 ∧
    bp (eight8 x7 x6 x5 x4 x3 x2 x1 x0) 1 = x1 ∧ bp (eight8 x7 x6 x5 x4 x3 x2 x1 x0) 0 = x0 := by
  refine ⟨?_, ?_, ?_, ?_, ?_, ?_, ?_, ?_⟩ <;> apply BitVec.eq_of_getLsbD_eq <;> intro i hi <;>
    simp only [bp, eight8, BitVec.getLsbD_extractLsb', BitVec.getLsbD_append, hi, decide_true, Bool.true_and] <;>
    split_ifs <;> first | omega | exact congrArg _ (by omega)

theorem hp_map2h (f : Nat → Half) (i : Nat) (h : i < 2) : hp (map2h f) i = f i := by
  obtain ⟨h1, h0⟩ := hp_two16 (f 1) (f 0)
  exact match i, h with
    | 0, _ => h0
    | 1, _ => h1

theorem hp_map4h (f : Nat → Half) (i : Nat) (h : i < 4) : hp (map4h f) i = f i := by
  obtain ⟨h3, h2, h1, h0⟩ := hp_four16 (f 3) (f 2) (f 1) (f 0)
  exact match i, h with
    | 0, _ => h0
    | 1, _ => h1
    | 2, _ => h2
    | 3, _ => h3

theorem hp_map8h (f : Nat → Half) (i : Nat) (h : i < 8) : hp (map8h f) i = f i := by
  obtain ⟨h7, h6, h5, h4, h3, h2, h1, h0⟩ := hp_eight16 (f 7) (f 6) (f 5) (f 4) (f 3) (f 2) (f 1) (f 0)
  exact match i, h with
    | 0, _ => h0
    | 1, _ => h1
    | 2, _ => h2
    | 3, _ => h3
    | 4, _ => h4
    | 5, _ => h5
    | 6, _ => h6
    | 7, _ => h7

theorem wp_map2w (f : Nat → Word) (i : Nat) (h : i < 2) : wp (map2w f) i = f i := by
  obtain ⟨h1, h0⟩ := wp_two32 (f 1) (f 0)
  exact match i, h with
    | 0, _ => h0
    | 1, _ => h1

theorem wp_map4w (f : Nat → Word) (i : Nat) (h : i < 4) : wp (map4w f) i = f i := by
  obtain ⟨h3, h2, h1, h0⟩ := wp_four32 (f 3) (f 2) (f 1) (f 0)
  exact match i, h with
    | 0, _ => h0
    | 1, _ => h1
    | 2, _ => h2
    | 3, _ => h3

theorem bp_map8b (f : Nat → BitVec 8) (i : Nat) (h : i < 8) : bp (map8b f) i = f i := by
  obtain ⟨h7, h6, h5, h4, h3, h2, h1, h0⟩ := bp_eight8 (f 7) (f 6) (f 5) (f 4) (f 3) (f 2) (f 1) (f 0)
  exact match i, h with
    | 0, _ => h0
    | 1, _ => h1
    | 2, _ => h2
    | 3, _ => h3
    | 4, _ => h4
    | 5, _ => h5
    | 6, _ => h6
    | 7, _ => h7

/-! ### Completion of an operation with one register-file destination -/

/-- An instruction whose only write is a 16-bit register. -/
theorem yieldsH_of {x : Instr} {σ : State} {rd : Reg} {v : Half} {P : Half → Prop}
    (h : exec x σ = .next (σ.onMe fun k => k.setH rd v)) (hv : P v) : YieldsH x σ rd P :=
  ⟨_, h, by rw [State.me_onMe, Core.h_setH_same]; exact hv, frame_setH σ rd v⟩

/-- An instruction whose only write is a 32-bit register. -/
theorem yieldsL_of {x : Instr} {σ : State} {rd : Reg} {v : Word} {P : Word → Prop}
    (h : exec x σ = .next (σ.onMe fun k => k.setL rd v)) (hv : P v) : YieldsL x σ rd P :=
  ⟨_, h, by rw [State.me_onMe, Core.l_setL_same]; exact hv, frame_setL σ rd v⟩

/-- An instruction whose only write is a 64-bit register. -/
theorem yieldsD_of {x : Instr} {σ : State} {rd : Reg} {v : Dbl} {P : Dbl → Prop}
    (h : exec x σ = .next (σ.onMe fun k => k.setD rd v)) (hv : P v) : YieldsD x σ rd P :=
  ⟨_, h, by rw [State.me_onMe, Core.d_setD_same]; exact hv, frame_setD σ rd v⟩

/-- An instruction whose only write is a 128-bit register. -/
theorem yieldsQ_of {x : Instr} {σ : State} {rd : Reg} {v : Quad} {P : Quad → Prop}
    (h : exec x σ = .next (σ.onMe fun k => k.setQ rd v)) (hv : P v) : YieldsQ x σ rd P :=
  ⟨_, h, by rw [State.me_onMe, Core.q_setQ_same]; exact hv, frame_setQ σ rd v⟩

/-! ### Operand forms -/

/-- Even registers pass the `.Q` check. -/
theorem needQuad_ok {ns : List Reg} {e : Effect} (h : ns.all quadOk = true) : needQuad ns e = e := by
  simp [needQuad, h]

/-- An odd register is refused. -/
theorem needQuad_odd {ns : List Reg} {e : Effect} (h : ns.all quadOk = false) : needQuad ns e = .error .oddQuad := by
  simp [needQuad, h]

/-- An allowed number in the selected field is used by its low three bits. -/
theorem withAcc_ok {σ : State} {l : List Nat} {t s d : BitVec 5} {f : BitVec 3 → Effect}
    (h : (accField σ.cfg.macNField t s d).toNat ∈ l) :
    withAcc σ l t s d f = f (accNumber (accField σ.cfg.macNField t s d)) := by
  simp [withAcc, accOk, h, accNumber]

/-- Another accumulator number is refused. -/
theorem withAcc_refused {σ : State} {l : List Nat} {t s d : BitVec 5} {f : BitVec 3 → Effect}
    (h : (accField σ.cfg.macNField t s d).toNat ∉ l) : withAcc σ l t s d f = .error .accumulatorNumber := by
  simp [withAcc, accOk, h]

/-- An instance's own scaling below 3, or 3 where it is allowed. -/
theorem withScale_ok {σ : State} {three : Bool} {f : Nat → Effect} (h : shiftHere σ ≠ 3 ∨ three = true) :
    withScale σ false three f = f (shiftHere σ) := by
  unfold withScale shiftHere at *
  rcases h with h | h <;> simp_all

/-- The compulsory scaling below 3. -/
theorem withScale_forced {σ : State} {f : Nat → Effect} (h : σ.me.scale ≠ 3) :
    withScale σ true false f = f σ.me.scale.toNat := by
  have : σ.me.scale.toNat ≠ 3 := fun e => h (BitVec.eq_of_toNat_eq e)
  simp [withScale, this]

/-- An amount within the limit. -/
theorem withAmount_ok {limit : Nat} {a : Half} {f : Nat → Effect} (h : a.toNat ≤ limit) :
    withAmount limit a f = f a.toNat := by
  simp [withAmount, h]

/-- An amount above the limit is refused. -/
theorem withAmount_refused {limit : Nat} {a : Half} {f : Nat → Effect} (h : limit < a.toNat) :
    withAmount limit a f = .error .shiftAmount := by
  simp [withAmount, Nat.not_le.mpr h]

/-! ### Sums of parts -/

theorem sumProd_eq {m n : Nat} (t : BitVec m) (s : BitVec n) (start count : Nat) :
    sumProd t s start count = ∑ i ∈ Finset.range count, sh t (start + i) * sh s (start + i) := by
  induction count with
  | zero => rfl
  | succ c ih => rw [Finset.sum_range_succ, ← ih]; rfl

end Sys2Proof.Machine
end

