-- ==== Sys2Proof/Laws/PerInstr.lean ====
section
/-! SUPPORT. One lemma per instruction: its row of the opcode tables gives it back from its own code and fields, whatever
the operands (30_encoding.md R162..R165); the move of format 9d gives back its control register (R150..R154). -/

namespace Sys2Proof

/-- What the encoding of one instruction must keep: an operation of a compute slot is the row that its code and its T, D, S
fields name; the control register of a 9d move is the one its RC code names. -/
def Laws.SlotRow.Statement (x : Instr) : Prop :=
  match x.place with
  | .op1 => lookup op1Table x.code x.fieldT x.fieldD x.fieldS = some x
  | .op2 => lookup op2Table x.code x.fieldT x.fieldD x.fieldS = some x
  | .move => ∀ rr rc l de, x = .move9dRC rr rc l de → decodeRc rc.subset.1 rc.subset.2 rc.code = some rc
  | .control => x.code = 0

/-- The RC code of every control register decodes to it (R150..R154). -/
theorem decodeRc_code (rc : CReg) : decodeRc rc.subset.1 rc.subset.2 rc.code = some rc := by
  cases rc
  case a n => revert n; decide
  case i n => revert n; decide
  case m n => revert n; decide
  case x n => revert n; decide
  case sar n => revert n; decide
  case ac n => revert n; decide
  all_goals rfl

theorem Laws.SlotRow.nop : Laws.SlotRow.Statement (.nop) := rfl
theorem Laws.SlotRow.nopHi : Laws.SlotRow.Statement (.nopHi) := rfl
theorem Laws.SlotRow.clrd (rd : Reg) : Laws.SlotRow.Statement (.clrd rd) := rfl
theorem Laws.SlotRow.asx2 (rt : Reg) (rs : Reg) (rd : Reg) : Laws.SlotRow.Statement (.asx2 rt rs rd) := rfl
theorem Laws.SlotRow.addd (rt : Reg) (rs : Reg) (rd : Reg) : Laws.SlotRow.Statement (.addd rt rs rd) := rfl
theorem Laws.SlotRow.asxs (rt : Reg) (rs : Reg) (rd : Reg) : Laws.SlotRow.Statement (.asxs rt rs rd) := rfl
theorem Laws.SlotRow.subd (rt : Reg) (rs : Reg) (rd : Reg) : Laws.SlotRow.Statement (.subd rt rs rd) := rfl
theorem Laws.SlotRow.asxs2 (rt : Reg) (rs : Reg) (rd : Reg) : Laws.SlotRow.Statement (.asxs2 rt rs rd) := rfl
theorem Laws.SlotRow.adcd (rt : Reg) (rs : Reg) (rd : Reg) : Laws.SlotRow.Statement (.adcd rt rs rd) := rfl
theorem Laws.SlotRow.a4 (rt : Reg) (rs : Reg) (rd : Reg) : Laws.SlotRow.Statement (.a4 rt rs rd) := rfl
theorem Laws.SlotRow.sbcd (rt : Reg) (rs : Reg) (rd : Reg) : Laws.SlotRow.Statement (.sbcd rt rs rd) := rfl
theorem Laws.SlotRow.a8 (rt : Reg) (rs : Reg) (rd : Reg) : Laws.SlotRow.Statement (.a8 rt rs rd) := rfl
theorem Laws.SlotRow.addld (rt : Reg) (rs : Reg) (rd : Reg) : Laws.SlotRow.Statement (.addld rt rs rd) := rfl
theorem Laws.SlotRow.s4 (rt : Reg) (rs : Reg) (rd : Reg) : Laws.SlotRow.Statement (.s4 rt rs rd) := rfl
theorem Laws.SlotRow.trs16 (rs : Reg) (rd : Reg) : Laws.SlotRow.Statement (.trs16 rs rd) := rfl
theorem Laws.SlotRow.s8 (rt : Reg) (rs : Reg) (rd : Reg) : Laws.SlotRow.Statement (.s8 rt rs rd) := rfl
theorem Laws.SlotRow.fasx (rt : Reg) (rs : Reg) (rd : Reg) : Laws.SlotRow.Statement (.fasx rt rs rd) := rfl
theorem Laws.SlotRow.ra4 (rt : Reg) (rs : Reg) (rd : Reg) : Laws.SlotRow.Statement (.ra4 rt rs rd) := rfl
theorem Laws.SlotRow.fasxs (rt : Reg) (rs : Reg) (rd : Reg) : Laws.SlotRow.Statement (.fasxs rt rs rd) := rfl
theorem Laws.SlotRow.ra8 (rt : Reg) (rs : Reg) (rd : Reg) : Laws.SlotRow.Statement (.ra8 rt rs rd) := rfl
theorem Laws.SlotRow.fax (rt : Reg) (rs : Reg) (rd : Reg) : Laws.SlotRow.Statement (.fax rt rs rd) := rfl
theorem Laws.SlotRow.sga4 (rt : Reg) (rs : Reg) (rd : Reg) : Laws.SlotRow.Statement (.sga4 rt rs rd) := rfl
theorem Laws.SlotRow.fsx (rt : Reg) (rs : Reg) (rd : Reg) : Laws.SlotRow.Statement (.fsx rt rs rd) := rfl
theorem Laws.SlotRow.sga8 (rt : Reg) (rs : Reg) (rd : Reg) : Laws.SlotRow.Statement (.sga8 rt rs rd) := rfl
theorem Laws.SlotRow.trs17 (rs : Reg) (rd : Reg) : Laws.SlotRow.Statement (.trs17 rs rd) := rfl
theorem Laws.SlotRow.a8s (rt : Reg) (rs : Reg) (rd : Reg) : Laws.SlotRow.Statement (.a8s rt rs rd) := rfl
theorem Laws.SlotRow.trs18 (rt : Reg) (rs : Reg) (rd : Reg) : Laws.SlotRow.Statement (.trs18 rt rs rd) := rfl
theorem Laws.SlotRow.ms2 (rt : Reg) (rs : Reg) (rd : Reg) : Laws.SlotRow.Statement (.ms2 rt rs rd) := rfl
theorem Laws.SlotRow.trs19 (rs : Reg) (rd : Reg) : Laws.SlotRow.Statement (.trs19 rs rd) := rfl
theorem Laws.SlotRow.ms4 (rt : Reg) (rs : Reg) (rd : Reg) : Laws.SlotRow.Statement (.ms4 rt rs rd) := rfl
theorem Laws.SlotRow.fsa (rt : Reg) (rs : Reg) (rd : Reg) : Laws.SlotRow.Statement (.fsa rt rs rd) := rfl
theorem Laws.SlotRow.ms8 (rt : Reg) (rs : Reg) (rd : Reg) : Laws.SlotRow.Statement (.ms8 rt rs rd) := rfl
theorem Laws.SlotRow.trs0 (rs : Reg) (rd : Reg) : Laws.SlotRow.Statement (.trs0 rs rd) := rfl
theorem Laws.SlotRow.s8s (rt : Reg) (rs : Reg) (rd : Reg) : Laws.SlotRow.Statement (.s8s rt rs rd) := rfl
theorem Laws.SlotRow.trs1 (rt : Reg) (rs : Reg) (rd : Reg) : Laws.SlotRow.Statement (.trs1 rt rs rd) := rfl
theorem Laws.SlotRow.negde (rs : Reg) (rd : Reg) : Laws.SlotRow.Statement (.negde rs rd) := rfl
theorem Laws.SlotRow.trs2 (rt : Reg) (rs : Reg) (rd : Reg) : Laws.SlotRow.Statement (.trs2 rt rs rd) := rfl
theorem Laws.SlotRow.allft41 (rs : Reg) (rd : Reg) : Laws.SlotRow.Statement (.allft41 rs rd) := rfl
theorem Laws.SlotRow.trs3 (rt : Reg) (rs : Reg) (rd : Reg) : Laws.SlotRow.Statement (.trs3 rt rs rd) := rfl
theorem Laws.SlotRow.allft22 (rs : Reg) (rd : Reg) : Laws.SlotRow.Statement (.allft22 rs rd) := rfl
theorem Laws.SlotRow.trs4 (rs : Reg) (rd : Reg) : Laws.SlotRow.Statement (.trs4 rs rd) := rfl
theorem Laws.SlotRow.all4 (rt : Reg) (rs : Reg) (rd : Reg) : Laws.SlotRow.Statement (.all4 rt rs rd) := rfl
theorem Laws.SlotRow.trs5 (rs : Reg) (rd : Reg) : Laws.SlotRow.Statement (.trs5 rs rd) := rfl
theorem Laws.SlotRow.all2 (rt : Reg) (rs : Reg) (rd : Reg) : Laws.SlotRow.Statement (.all2 rt rs rd) := rfl
theorem Laws.SlotRow.trs6 (rs : Reg) (rd : Reg) : Laws.SlotRow.Statement (.trs6 rs rd) := rfl
theorem Laws.SlotRow.al4 (rt : Reg) (rs : Reg) (rd : Reg) : Laws.SlotRow.Statement (.al4 rt rs rd) := rfl
theorem Laws.SlotRow.trs7 (rs : Reg) (rd : Reg) : Laws.SlotRow.Statement (.trs7 rs rd) := rfl
theorem Laws.SlotRow.al2 (rt : Reg) (rs : Reg) (rd : Reg) : Laws.SlotRow.Statement (.al2 rt rs rd) := rfl
theorem Laws.SlotRow.trs8 (rs : Reg) (rd : Reg) : Laws.SlotRow.Statement (.trs8 rs rd) := rfl
theorem Laws.SlotRow.norvd (rs : Reg) (rd : Reg) : Laws.SlotRow.Statement (.norvd rs rd) := rfl
theorem Laws.SlotRow.trs9 (rs : Reg) (rd : Reg) : Laws.SlotRow.Statement (.trs9 rs rd) := rfl
theorem Laws.SlotRow.a81 (rs : Reg) (rd : Reg) : Laws.SlotRow.Statement (.a81 rs rd) := rfl
theorem Laws.SlotRow.trs10 (rs : Reg) (rd : Reg) : Laws.SlotRow.Statement (.trs10 rs rd) := rfl
theorem Laws.SlotRow.a42 (rs : Reg) (rd : Reg) : Laws.SlotRow.Statement (.a42 rs rd) := rfl
theorem Laws.SlotRow.trs11 (rt : Reg) (rs : Reg) (rd : Reg) : Laws.SlotRow.Statement (.trs11 rt rs rd) := rfl
theorem Laws.SlotRow.a24 (rs : Reg) (rd : Reg) : Laws.SlotRow.Statement (.a24 rs rd) := rfl
theorem Laws.SlotRow.trs12 (rt : Reg) (rs : Reg) (rd : Reg) : Laws.SlotRow.Statement (.trs12 rt rs rd) := rfl
theorem Laws.SlotRow.bf4 (rt : Reg) (rs : Reg) (rd : Reg) : Laws.SlotRow.Statement (.bf4 rt rs rd) := rfl
theorem Laws.SlotRow.trs13 (rt : Reg) (rs : Reg) (rd : Reg) : Laws.SlotRow.Statement (.trs13 rt rs rd) := rfl
theorem Laws.SlotRow.bif4 (rt : Reg) (rs : Reg) (rd : Reg) : Laws.SlotRow.Statement (.bif4 rt rs rd) := rfl
theorem Laws.SlotRow.trs14 (rt : Reg) (rs : Reg) (rd : Reg) : Laws.SlotRow.Statement (.trs14 rt rs rd) := rfl
theorem Laws.SlotRow.axj4 (rt : Reg) (rs : Reg) (rd : Reg) : Laws.SlotRow.Statement (.axj4 rt rs rd) := rfl
theorem Laws.SlotRow.trs15 (rs : Reg) (rd : Reg) : Laws.SlotRow.Statement (.trs15 rs rd) := rfl
theorem Laws.SlotRow.sxj4 (rt : Reg) (rs : Reg) (rd : Reg) : Laws.SlotRow.Statement (.sxj4 rt rs rd) := rfl
theorem Laws.SlotRow.cmpn4 (rt : Reg) (rs : Reg) (rd : Reg) : Laws.SlotRow.Statement (.cmpn4 rt rs rd) := rfl
theorem Laws.SlotRow.cmpn8 (rt : Reg) (rs : Reg) (rd : Reg) : Laws.SlotRow.Statement (.cmpn8 rt rs rd) := rfl
theorem Laws.SlotRow.andd (rt : Reg) (rs : Reg) (rd : Reg) : Laws.SlotRow.Statement (.andd rt rs rd) := rfl
theorem Laws.SlotRow.cmpz4 (rt : Reg) (rs : Reg) (rd : Reg) : Laws.SlotRow.Statement (.cmpz4 rt rs rd) := rfl
theorem Laws.SlotRow.andcd (rt : Reg) (rs : Reg) (rd : Reg) : Laws.SlotRow.Statement (.andcd rt rs rd) := rfl
theorem Laws.SlotRow.cmpz8 (rt : Reg) (rs : Reg) (rd : Reg) : Laws.SlotRow.Statement (.cmpz8 rt rs rd) := rfl
theorem Laws.SlotRow.andid (rt : Reg) (rs : Reg) (rd : Reg) : Laws.SlotRow.Statement (.andid rt rs rd) := rfl
theorem Laws.SlotRow.cmpnl2 (rt : Reg) (rs : Reg) (rd : Reg) : Laws.SlotRow.Statement (.cmpnl2 rt rs rd) := rfl
theorem Laws.SlotRow.insd (rt : Reg) (rs : Reg) (rd : Reg) : Laws.SlotRow.Statement (.insd rt rs rd) := rfl
theorem Laws.SlotRow.cmpnl4 (rt : Reg) (rs : Reg) (rd : Reg) : Laws.SlotRow.Statement (.cmpnl4 rt rs rd) := rfl
theorem Laws.SlotRow.ord (rt : Reg) (rs : Reg) (rd : Reg) : Laws.SlotRow.Statement (.ord rt rs rd) := rfl
theorem Laws.SlotRow.cmpzl2 (rt : Reg) (rs : Reg) (rd : Reg) : Laws.SlotRow.Statement (.cmpzl2 rt rs rd) := rfl
theorem Laws.SlotRow.orcd (rt : Reg) (rs : Reg) (rd : Reg) : Laws.SlotRow.Statement (.orcd rt rs rd) := rfl
theorem Laws.SlotRow.cmpzl4 (rt : Reg) (rs : Reg) (rd : Reg) : Laws.SlotRow.Statement (.cmpzl4 rt rs rd) := rfl
theorem Laws.SlotRow.orid (rt : Reg) (rs : Reg) (rd : Reg) : Laws.SlotRow.Statement (.orid rt rs rd) := rfl
theorem Laws.SlotRow.max4 (rt : Reg) (rs : Reg) (rd : Reg) : Laws.SlotRow.Statement (.max4 rt rs rd) := rfl
theorem Laws.SlotRow.eord (rt : Reg) (rs : Reg) (rd : Reg) : Laws.SlotRow.Statement (.eord rt rs rd) := rfl
theorem Laws.SlotRow.max8 (rt : Reg) (rs : Reg) (rd : Reg) : Laws.SlotRow.Statement (.max8 rt rs rd) := rfl
theorem Laws.SlotRow.notd (rs : Reg) (rd : Reg) : Laws.SlotRow.Statement (.notd rs rd) := rfl
theorem Laws.SlotRow.min4 (rt : Reg) (rs : Reg) (rd : Reg) : Laws.SlotRow.Statement (.min4 rt rs rd) := rfl
theorem Laws.SlotRow.trd (rs : Reg) (rd : Reg) : Laws.SlotRow.Statement (.trd rs rd) := rfl
theorem Laws.SlotRow.min8 (rt : Reg) (rs : Reg) (rd : Reg) : Laws.SlotRow.Statement (.min8 rt rs rd) := rfl
theorem Laws.SlotRow.maxl2 (rt : Reg) (rs : Reg) (rd : Reg) : Laws.SlotRow.Statement (.maxl2 rt rs rd) := rfl
theorem Laws.SlotRow.pdnxl (rs : Reg) (rd : Reg) : Laws.SlotRow.Statement (.pdnxl rs rd) := rfl
theorem Laws.SlotRow.maxl4 (rt : Reg) (rs : Reg) (rd : Reg) : Laws.SlotRow.Statement (.maxl4 rt rs rd) := rfl
theorem Laws.SlotRow.pdnde (rs : Reg) (rd : Reg) : Laws.SlotRow.Statement (.pdnde rs rd) := rfl
theorem Laws.SlotRow.minl2 (rt : Reg) (rs : Reg) (rd : Reg) : Laws.SlotRow.Statement (.minl2 rt rs rd) := rfl
theorem Laws.SlotRow.pdnd (rs : Reg) (rd : Reg) : Laws.SlotRow.Statement (.pdnd rs rd) := rfl
theorem Laws.SlotRow.minl4 (rt : Reg) (rs : Reg) (rd : Reg) : Laws.SlotRow.Statement (.minl4 rt rs rd) := rfl
theorem Laws.SlotRow.nopB : Laws.SlotRow.Statement (.nopB) := rfl
theorem Laws.SlotRow.nopBHi : Laws.SlotRow.Statement (.nopBHi) := rfl
theorem Laws.SlotRow.nopBMid : Laws.SlotRow.Statement (.nopBMid) := rfl
theorem Laws.SlotRow.mfx (rt : Reg) (rs : Reg) (rd : Reg) : Laws.SlotRow.Statement (.mfx rt rs rd) := rfl
theorem Laws.SlotRow.fm2 (rt : Reg) (rs : Reg) (rd : Reg) : Laws.SlotRow.Statement (.fm2 rt rs rd) := rfl
theorem Laws.SlotRow.mfxc (rt : Reg) (rs : Reg) (rd : Reg) : Laws.SlotRow.Statement (.mfxc rt rs rd) := rfl
theorem Laws.SlotRow.fms2 (rt : Reg) (rs : Reg) (rd : Reg) : Laws.SlotRow.Statement (.fms2 rt rs rd) := rfl
theorem Laws.SlotRow.mfx2 (rt : Reg) (rs : Reg) (rd : Reg) : Laws.SlotRow.Statement (.mfx2 rt rs rd) := rfl
theorem Laws.SlotRow.mfxc2 (rt : Reg) (rs : Reg) (rd : Reg) : Laws.SlotRow.Statement (.mfxc2 rt rs rd) := rfl
theorem Laws.SlotRow.trs16B (rs : Reg) (rd : Reg) : Laws.SlotRow.Statement (.trs16B rs rd) := rfl
theorem Laws.SlotRow.mf4 (rt : Reg) (rs : Reg) (rd : Reg) : Laws.SlotRow.Statement (.mf4 rt rs rd) := rfl
theorem Laws.SlotRow.mf8 (rt : Reg) (rs : Reg) (rd : Reg) : Laws.SlotRow.Statement (.mf8 rt rs rd) := rfl
theorem Laws.SlotRow.trs17B (rs : Reg) (rd : Reg) : Laws.SlotRow.Statement (.trs17B rs rd) := rfl
theorem Laws.SlotRow.ml2 (rt : Reg) (rs : Reg) (rd : Reg) : Laws.SlotRow.Statement (.ml2 rt rs rd) := rfl
theorem Laws.SlotRow.trs18B (rt : Reg) (rs : Reg) (rd : Reg) : Laws.SlotRow.Statement (.trs18B rt rs rd) := rfl
theorem Laws.SlotRow.uml (rt : Reg) (rs : Reg) (rd : Reg) : Laws.SlotRow.Statement (.uml rt rs rd) := rfl
theorem Laws.SlotRow.trs19B (rs : Reg) (rd : Reg) : Laws.SlotRow.Statement (.trs19B rs rd) := rfl
theorem Laws.SlotRow.uml2 (rt : Reg) (rs : Reg) (rd : Reg) : Laws.SlotRow.Statement (.uml2 rt rs rd) := rfl
theorem Laws.SlotRow.mfa81 (rt : Reg) (rs : Reg) (rd : Reg) : Laws.SlotRow.Statement (.mfa81 rt rs rd) := rfl
theorem Laws.SlotRow.trs0B (rs : Reg) (rd : Reg) : Laws.SlotRow.Statement (.trs0B rs rd) := rfl
theorem Laws.SlotRow.mfa41 (rt : Reg) (rs : Reg) (rd : Reg) : Laws.SlotRow.Statement (.mfa41 rt rs rd) := rfl
theorem Laws.SlotRow.trs1B (rt : Reg) (rs : Reg) (rd : Reg) : Laws.SlotRow.Statement (.trs1B rt rs rd) := rfl
theorem Laws.SlotRow.mfa42 (rt : Reg) (rs : Reg) (rd : Reg) : Laws.SlotRow.Statement (.mfa42 rt rs rd) := rfl
theorem Laws.SlotRow.trs2B (rt : Reg) (rs : Reg) (rd : Reg) : Laws.SlotRow.Statement (.trs2B rt rs rd) := rfl
theorem Laws.SlotRow.mfa21 (rt : Reg) (rs : Reg) (rd : Reg) : Laws.SlotRow.Statement (.mfa21 rt rs rd) := rfl
theorem Laws.SlotRow.trs3B (rt : Reg) (rs : Reg) (rd : Reg) : Laws.SlotRow.Statement (.trs3B rt rs rd) := rfl
theorem Laws.SlotRow.mfa22 (rt : Reg) (rs : Reg) (rd : Reg) : Laws.SlotRow.Statement (.mfa22 rt rs rd) := rfl
theorem Laws.SlotRow.trs4B (rs : Reg) (rd : Reg) : Laws.SlotRow.Statement (.trs4B rs rd) := rfl
theorem Laws.SlotRow.mfa24 (rt : Reg) (rs : Reg) (rd : Reg) : Laws.SlotRow.Statement (.mfa24 rt rs rd) := rfl
theorem Laws.SlotRow.trs5B (rs : Reg) (rd : Reg) : Laws.SlotRow.Statement (.trs5B rs rd) := rfl
theorem Laws.SlotRow.m4 (rt : Reg) (rs : Reg) (rd : Reg) : Laws.SlotRow.Statement (.m4 rt rs rd) := rfl
theorem Laws.SlotRow.trs6B (rs : Reg) (rd : Reg) : Laws.SlotRow.Statement (.trs6B rs rd) := rfl
theorem Laws.SlotRow.m2 (rt : Reg) (rs : Reg) (rd : Reg) : Laws.SlotRow.Statement (.m2 rt rs rd) := rfl
theorem Laws.SlotRow.trs7B (rs : Reg) (rd : Reg) : Laws.SlotRow.Statement (.trs7B rs rd) := rfl
theorem Laws.SlotRow.trs8B (rs : Reg) (rd : Reg) : Laws.SlotRow.Statement (.trs8B rs rd) := rfl
theorem Laws.SlotRow.trs9B (rs : Reg) (rd : Reg) : Laws.SlotRow.Statement (.trs9B rs rd) := rfl
theorem Laws.SlotRow.lsldi (imm : BitVec 5) (rs : Reg) (rd : Reg) : Laws.SlotRow.Statement (.lsldi imm rs rd) := rfl
theorem Laws.SlotRow.trs10B (rs : Reg) (rd : Reg) : Laws.SlotRow.Statement (.trs10B rs rd) := rfl
theorem Laws.SlotRow.lslxl (rt : Reg) (rs : Reg) (rd : Reg) : Laws.SlotRow.Statement (.lslxl rt rs rd) := rfl
theorem Laws.SlotRow.trs11B (rt : Reg) (rs : Reg) (rd : Reg) : Laws.SlotRow.Statement (.trs11B rt rs rd) := rfl
theorem Laws.SlotRow.trs12B (rt : Reg) (rs : Reg) (rd : Reg) : Laws.SlotRow.Statement (.trs12B rt rs rd) := rfl
theorem Laws.SlotRow.asldi (imm : BitVec 5) (rs : Reg) (rd : Reg) : Laws.SlotRow.Statement (.asldi imm rs rd) := rfl
theorem Laws.SlotRow.trs13B (rt : Reg) (rs : Reg) (rd : Reg) : Laws.SlotRow.Statement (.trs13B rt rs rd) := rfl
theorem Laws.SlotRow.aslxl (rt : Reg) (rs : Reg) (rd : Reg) : Laws.SlotRow.Statement (.aslxl rt rs rd) := rfl
theorem Laws.SlotRow.trs14B (rt : Reg) (rs : Reg) (rd : Reg) : Laws.SlotRow.Statement (.trs14B rt rs rd) := rfl
theorem Laws.SlotRow.trdB (rs : Reg) (rd : Reg) : Laws.SlotRow.Statement (.trdB rs rd) := rfl
theorem Laws.SlotRow.trs15B (rs : Reg) (rd : Reg) : Laws.SlotRow.Statement (.trs15B rs rd) := rfl
theorem Laws.SlotRow.lsld (rt : Reg) (rs : Reg) (rd : Reg) : Laws.SlotRow.Statement (.lsld rt rs rd) := rfl
theorem Laws.SlotRow.macx (rt : Reg) (rs : Reg) (n : BitVec 5) : Laws.SlotRow.Statement (.macx rt rs n) := rfl
theorem Laws.SlotRow.rold (rs : Reg) (rd : Reg) : Laws.SlotRow.Statement (.rold rs rd) := rfl
theorem Laws.SlotRow.macx2 (rt : Reg) (rs : Reg) (n : BitVec 5) : Laws.SlotRow.Statement (.macx2 rt rs n) := rfl
theorem Laws.SlotRow.macxc (rt : Reg) (rs : Reg) (n : BitVec 5) : Laws.SlotRow.Statement (.macxc rt rs n) := rfl
theorem Laws.SlotRow.asld (rt : Reg) (rs : Reg) (rd : Reg) : Laws.SlotRow.Statement (.asld rt rs rd) := rfl
theorem Laws.SlotRow.macxc2 (rt : Reg) (rs : Reg) (n : BitVec 5) : Laws.SlotRow.Statement (.macxc2 rt rs n) := rfl
theorem Laws.SlotRow.asrde (rt : Reg) (rs : Reg) (rd : Reg) : Laws.SlotRow.Statement (.asrde rt rs rd) := rfl
theorem Laws.SlotRow.mac41 (rt : Reg) (rs : Reg) (n : BitVec 5) : Laws.SlotRow.Statement (.mac41 rt rs n) := rfl
theorem Laws.SlotRow.mac81 (rt : Reg) (rs : Reg) (n : BitVec 5) : Laws.SlotRow.Statement (.mac81 rt rs n) := rfl
theorem Laws.SlotRow.btstdi (imm : BitVec 5) (rs : Reg) : Laws.SlotRow.Statement (.btstdi imm rs) := rfl
theorem Laws.SlotRow.macxb4 (rt : Reg) (rs : Reg) (n : BitVec 5) : Laws.SlotRow.Statement (.macxb4 rt rs n) := rfl
theorem Laws.SlotRow.lsrdi (imm : BitVec 5) (rs : Reg) (rd : Reg) : Laws.SlotRow.Statement (.lsrdi imm rs rd) := rfl
theorem Laws.SlotRow.macl2 (rt : Reg) (rs : Reg) (n : BitVec 5) : Laws.SlotRow.Statement (.macl2 rt rs n) := rfl
theorem Laws.SlotRow.lsrxl (rt : Reg) (rs : Reg) (rd : Reg) : Laws.SlotRow.Statement (.lsrxl rt rs rd) := rfl
theorem Laws.SlotRow.clrac (rt : Reg) : Laws.SlotRow.Statement (.clrac rt) := rfl
theorem Laws.SlotRow.ldac (rt : Reg) (rd : Reg) : Laws.SlotRow.Statement (.ldac rt rd) := rfl
theorem Laws.SlotRow.asrdi (imm : BitVec 5) (rs : Reg) (rd : Reg) : Laws.SlotRow.Statement (.asrdi imm rs rd) := rfl
theorem Laws.SlotRow.ldacd (rt : Reg) (rd : Reg) : Laws.SlotRow.Statement (.ldacd rt rd) := rfl
theorem Laws.SlotRow.asrxl (rt : Reg) (rs : Reg) (rd : Reg) : Laws.SlotRow.Statement (.asrxl rt rs rd) := rfl
theorem Laws.SlotRow.stac (rt : Reg) (rs : Reg) : Laws.SlotRow.Statement (.stac rt rs) := rfl
theorem Laws.SlotRow.stacd (rt : Reg) (rs : Reg) : Laws.SlotRow.Statement (.stacd rt rs) := rfl
theorem Laws.SlotRow.smbd (rs : Reg) (rd : Reg) : Laws.SlotRow.Statement (.smbd rs rd) := rfl
theorem Laws.SlotRow.lsrd (rt : Reg) (rs : Reg) (rd : Reg) : Laws.SlotRow.Statement (.lsrd rt rs rd) := rfl
theorem Laws.SlotRow.mac42 (rt : Reg) (rs : Reg) (n : BitVec 5) : Laws.SlotRow.Statement (.mac42 rt rs n) := rfl
theorem Laws.SlotRow.rord (rs : Reg) (rd : Reg) : Laws.SlotRow.Statement (.rord rs rd) := rfl
theorem Laws.SlotRow.mac24 (rt : Reg) (rs : Reg) (n : BitVec 5) : Laws.SlotRow.Statement (.mac24 rt rs n) := rfl
theorem Laws.SlotRow.btstd (rt : Reg) (rs : Reg) : Laws.SlotRow.Statement (.btstd rt rs) := rfl
theorem Laws.SlotRow.mac22 (rt : Reg) (rs : Reg) (n : BitVec 5) : Laws.SlotRow.Statement (.mac22 rt rs n) := rfl
theorem Laws.SlotRow.mac21 (rt : Reg) (rs : Reg) (n : BitVec 5) : Laws.SlotRow.Statement (.mac21 rt rs n) := rfl
theorem Laws.SlotRow.asrd (rt : Reg) (rs : Reg) (rd : Reg) : Laws.SlotRow.Statement (.asrd rt rs rd) := rfl
theorem Laws.SlotRow.mac18 (rt : Reg) (rs : Reg) : Laws.SlotRow.Statement (.mac18 rt rs) := rfl
theorem Laws.SlotRow.mac14 (rt : Reg) (rs : Reg) (n : BitVec 5) : Laws.SlotRow.Statement (.mac14 rt rs n) := rfl
theorem Laws.SlotRow.mac12 (rt : Reg) (rs : Reg) (n : BitVec 5) : Laws.SlotRow.Statement (.mac12 rt rs n) := rfl
theorem Laws.SlotRow.mac11 (rt : Reg) (rs : Reg) (n : BitVec 5) : Laws.SlotRow.Statement (.mac11 rt rs n) := rfl
theorem Laws.SlotRow.acsg8 (rt : Reg) (rs : Reg) : Laws.SlotRow.Statement (.acsg8 rt rs) := rfl
theorem Laws.SlotRow.acsg4 (rt : Reg) (rs : Reg) (n : BitVec 5) : Laws.SlotRow.Statement (.acsg4 rt rs n) := rfl
theorem Laws.SlotRow.acsg2 (rt : Reg) (rs : Reg) (n : BitVec 5) : Laws.SlotRow.Statement (.acsg2 rt rs n) := rfl
theorem Laws.SlotRow.acsg1 (rt : Reg) (rs : Reg) (n : BitVec 5) : Laws.SlotRow.Statement (.acsg1 rt rs n) := rfl
theorem Laws.SlotRow.move9aX (r : BitVec 4) (u : Bool) (mode : BitVec 3) (a : BitVec 3) (de : Bool) : Laws.SlotRow.Statement (.move9aX r u mode a de) := fun _ _ _ _ h => by cases h
theorem Laws.SlotRow.move9aY (aT : BitVec 2) (u : Bool) : Laws.SlotRow.Statement (.move9aY aT u) := fun _ _ _ _ h => by cases h
theorem Laws.SlotRow.move9bR (rs : Reg) (rd : Reg) (l : Bool) : Laws.SlotRow.Statement (.move9bR rs rd l) := fun _ _ _ _ h => by cases h
theorem Laws.SlotRow.move9bY (aT : BitVec 2) (u : Bool) : Laws.SlotRow.Statement (.move9bY aT u) := fun _ _ _ _ h => by cases h
theorem Laws.SlotRow.move9dRC (rr : Reg) (rc : CReg) (l : Bool) (de : Bool) : Laws.SlotRow.Statement (.move9dRC rr rc l de) := fun _ _ _ _ _ => decodeRc_code _
theorem Laws.SlotRow.rti (cc : BitVec 4) : Laws.SlotRow.Statement (.rti cc) := rfl

end Sys2Proof
end

