-- ==== Sys2Proof/Tests/Slice0.lean ====
section
/-! SUPPORT. Tests. Expected results come from spec/95_test_vectors.md and from the examples of the instruction rules. The
words are those of 95_test_vectors.md sections 2 and 3. `witness_X` shows a state and operands that meet the hypotheses
of `Obligations.X`, each clause at a boundary value of its range. -/

namespace Sys2Proof.Tests

open Sys2Proof Sys2Proof.Machine

set_option Elab.async false

/-! ### Ill-formed terms are refused, check by check -/

theorem test_check_oddQuad : (Instr.a8 2 3 4).check .d = some .oddQuad := by decide
theorem test_check_oddQuad_move : (Instr.move9bR 3 4 true).check .d = some .oddQuad := by decide
theorem test_check_accumulator : (Instr.mac42 8 10 3).check .d = some .accumulator := by decide
theorem test_check_widthBit : (Instr.move9dRC 5 (.i 0) true false).check .d = some .widthBit := by decide
theorem test_check_accumulatorView : (Instr.move9dRC 8 (.ac 5) false true).check .d = some .accumulatorView := by decide
theorem test_check_stackRegister : (Instr.move9dRC 8 .pc false true).check .d = some .stackRegister := by decide
theorem test_check_slot : (Bundle.f9b .nopB .nop 0 0 0 false false).check .d = some .slot := by decide
theorem test_check_part : (Bundle.f9b (.a8 2 3 4) .nopB 0 0 0 false false).check .d = some .oddQuad := by decide

/-! ### Words written out from the spec's encodings (95_test_vectors.md V1..V12) -/

/-- V1. -/
theorem test_decode_nop : decode 0x30 0x00001780 0x00001040 = .ok (.f9b .nop .nopB 2 0 4 false false) := by
  decide +kernel
/-- V2: ANDD (64-bit ALU), MAC81 (accumulators), a 128-bit register move, a 128-bit Y load. -/
theorem test_decode_andd_mac81 :
    decode 0x30 0x118967D1 0x40D4BB46 = .ok (.f9b (.andd 2 4 6) (.mac81 8 10 3) 12 1 14 true true) := by
  decide +kernel
/-- V3: A8 (packed ALU), MFA81 (multiplier), an X load. -/
theorem test_decode_a8_mfa81 :
    decode 0x30 0x11889FA5 0x4414962A = .ok (.f9a (.a8 2 4 6) (.mfa81 8 10 16) 9 true 1 1 3 false) := by
  decide +kernel
/-- V4: an X store. -/
theorem test_decode_store : decode 0x30 0x00002780 0x00000300 = .ok (.f9a .nop .nopB 2 false 0 0 1 true) := by
  decide +kernel
/-- V5: LSLDi (shifter) and a PCU register. -/
theorem test_decode_lsldi :
    decode 0x30 0x1189FF82 0x220C0AE1 = .ok (.f9d (.addd 2 4 6) (.lsldi 4 6 8) 31 .idr false false) := by
  decide +kernel
/-- V6: an AGU register. -/
theorem test_decode_a3 : decode 0x30 0x00002F80 0x00008DC0 = .ok (.f9d .nop .nopB 5 (.a 3) true true) := by
  decide +kernel
/-- V7: XBUF. -/
theorem test_decode_x7 : decode 0x30 0x00003780 0x00011DC0 = .ok (.f9d .nop .nopB 6 (.x 7) false true) := by
  decide +kernel
/-- V8: an accumulator. -/
theorem test_decode_ac4 : decode 0x30 0x00004780 0x000192C0 = .ok (.f9d .nop .nopB 8 (.ac 4) true false) := by
  decide +kernel
/-- V9: TRD in both slots, DSTART. -/
theorem test_decode_dstart :
    decode 0x30 0x03150FDA 0x041C0FE6 = .ok (.f9d (.trd 10 12) (.trdB 14 16) 1 .efr false true) := by
  decide +kernel
/-- V10: CMPN4 (comparisons), BTSTDi. -/
theorem test_decode_cmpn4 :
    decode 0x30 0x11894FE0 0xF80C12F0 = .ok (.f9d (.cmpn4 2 4 6) (.btstdi 31 6) 9 .irqr false false) := by
  decide +kernel
/-- FM2 (floating point, {M,OP2} = 0000010) with T2 = 4, D2 = 8, S2 = 6, written out from R163, R165. -/
theorem test_decode_fm2 :
    decode 0x30 0x00000780 0x220C0002 = .ok (.f9a .nop (.fm2 4 6 8) 0 false 0 0 0 false) := by decide +kernel
/-- TRS0 (transfer block, OP1 = 0010000) with D1 = 8, S1 = 6, written out from R163, R164. -/
theorem test_decode_trs0 :
    decode 0x30 0x020C0790 0x00000000 = .ok (.f9a (.trs0 6 8) .nopB 0 false 0 0 0 false) := by decide +kernel
/-- V11: RTI, with and without its don't-care bits; the RTS word is a base format. -/
theorem test_decode_rti : decode 0x30 0xF00001B0 0 = .ok (.rti 0xF) ∧ decode 0x30 0xF55E69B0 0 = .ok (.rti 0xF) ∧
    decode 0x30 0xF80001B0 0 = .error .baseFormat := by decide +kernel
/-- V12: empty cells, OP3 = 10, a reserved RC code. -/
theorem test_decode_reserved : decode 0x30 0x000007A0 0x000000C0 = .error .reservedOp1 ∧
    decode 0x30 0x00000780 0x00000001 = .error .reservedOp2 ∧
    decode 0x30 0x00000780 0x00000080 = .error .reservedOp3 ∧
    decode 0x30 0x00000780 0x000070C0 = .error .reservedRc := by decide +kernel

/-! ### One instruction on registers: T in row 2, S in row 3, the old D in row 4 (95_test_vectors.md section 3) -/

/-- The state after reset with R4.Q, R6.Q, R8.Q given. -/
def regs (t s d : Quad) : State :=
  { State.reset with core0 := ((State.reset.core0.setQ 4 t).setQ 6 s).setQ 8 d }
/-- The core whose turn it is, changed. -/
def with' (f : Core → Core) (σ : State) : State := σ.onMe f
/-- R8.Q after an instruction that completes. -/
def row8 (x : Instr) (σ : State) : Option Quad :=
  match exec x σ with
  | .next τ => some (τ.me.q 8)
  | _ => none
/-- Something of the state after an instruction that completes. -/
def after {α : Type} (x : Instr) (σ : State) (f : State → α) : Option α :=
  match exec x σ with
  | .next τ => some (f τ)
  | _ => none
/-- The refusal that an outcome is. -/
def stop : Host.Outcome State Fault Refusal → Option Refusal
  | .refused r => some r
  | _ => none
/-- The refusal of an instruction. -/
def refusal (x : Instr) (σ : State) : Option Refusal := stop (exec x σ)

theorem test_andd : row8 (.andd 4 6 8) (regs 0xff00ff000f0f0f0f 0x123456789abcdef0 0xaaaaaaaa55555555) =
    some 0x120056000a0c0e00 := by decide +kernel
theorem test_andcd : row8 (.andcd 4 6 8) (regs 0xff00ff000f0f0f0f 0x123456789abcdef0 0xaaaaaaaa55555555) =
    some 0x34007890b0d0f0 := by decide +kernel
theorem test_andid : row8 (.andid 4 6 8) (regs 0xff00ff000f0f0f0f 0x123456789abcdef0 0xaaaaaaaa55555555) =
    some 0xedffa9fff5f3f1ff := by decide +kernel
theorem test_ord : row8 (.ord 4 6 8) (regs 0xff00ff000f0f0f0f 0x123456789abcdef0 0xaaaaaaaa55555555) =
    some 0xff34ff789fbfdfff := by decide +kernel
theorem test_orcd : row8 (.orcd 4 6 8) (regs 0xff00ff000f0f0f0f 0x123456789abcdef0 0xaaaaaaaa55555555) =
    some 0x12ff56fffafcfef0 := by decide +kernel
theorem test_orid : row8 (.orid 4 6 8) (regs 0xff00ff000f0f0f0f 0x123456789abcdef0 0xaaaaaaaa55555555) =
    some 0xcb008760402000 := by decide +kernel
theorem test_eord : row8 (.eord 4 6 8) (regs 0xff00ff000f0f0f0f 0x123456789abcdef0 0xaaaaaaaa55555555) =
    some 0xed34a97895b3d1ff := by decide +kernel
theorem test_notd : row8 (.notd 6 8) (regs 0x0 0x123456789abcdef0 0x0) = some 0xedcba9876543210f := by decide +kernel
theorem test_insd1 : row8 (.insd 4 6 8) { (regs 0xff00ff000f0f0f0f 0x123456789abcdef0 0xaaaaaaaa55555555) with cfg := { resetConfig with insdPolarity := true } } =
    some 0xba8afe824f4d0f05 := by decide +kernel
theorem test_insd0 : row8 (.insd 4 6 8) { (regs 0xff00ff000f0f0f0f 0x123456789abcdef0 0xaaaaaaaa55555555) with cfg := { resetConfig with insdPolarity := false } } =
    some 0xef20ab281517555f := by decide +kernel
theorem test_addd : row8 (.addd 4 6 8) (regs 0x100000000 0x7fffffffffffffff 0x0) =
    some 0x80000000ffffffff := by decide +kernel
theorem test_addd_wraps : row8 (.addd 4 6 8) (regs 0xffffffffffffffff 0x1 0x5) = some 0x0 := by decide +kernel
theorem test_subd : row8 (.subd 4 6 8) (regs 0xffffffffffffffff 0x1 0x0) = some 0x2 := by decide +kernel
theorem test_adcd1 : row8 (.adcd 4 6 8) (with' (fun k => { k with ccr := 1 }) (regs 0x100000000 0x7fffffffffffffff 0x0)) =
    some 0x8000000100000000 := by decide +kernel
theorem test_adcd0 : row8 (.adcd 4 6 8) (regs 0x100000000 0x7fffffffffffffff 0x0) =
    some 0x80000000ffffffff := by decide +kernel
theorem test_sbcd1 : row8 (.sbcd 4 6 8) (with' (fun k => { k with ccr := 1 }) (regs 0x100000000 0x7fffffffffffffff 0x0)) =
    some 0x7ffffffeffffffff := by decide +kernel
theorem test_sbcd0 : row8 (.sbcd 4 6 8) (regs 0x100000000 0x7fffffffffffffff 0x0) =
    some 0x7ffffffefffffffe := by decide +kernel
theorem test_addld : row8 (.addld 4 6 8) (regs 0xffffffff 0x100000000 0x0) = some 0xffffffff := by decide +kernel
theorem test_addld_low : row8 (.addld 4 6 8) (regs 0x80000000 0xffffffffffffffff 0x0) =
    some 0xffffffff7fffffff := by decide +kernel
theorem test_trd : row8 (.trd 6 8) (regs 0x0 0x123456789abcdef0 0x0) = some 0x123456789abcdef0 := by decide +kernel
theorem test_pdnde_zero : row8 (.pdnde 6 8) (regs 0x0 0x0 0xffffffff) = some 0x0 := by decide +kernel
theorem test_norvd_a : row8 (.norvd 6 8) (with' (fun k => { k with ccr := 2 }) (regs 0x0 0x8000000000000003 0x0)) =
    some 0x4000000000000002 := by decide +kernel
theorem test_norvd_b : row8 (.norvd 6 8) (with' (fun k => { k with ccr := 2 }) (regs 0x0 0x7fffffffffffffff 0x0)) =
    some 0xc000000000000000 := by decide +kernel
theorem test_negde : row8 (.negde 6 8) (regs 0x0 0x8000000000000000 0x0) =
    some 0x4000000000000000 := by decide +kernel
theorem test_negde_one : row8 (.negde 6 8) (regs 0x0 0x1 0x0) = some 0xffffffffffffffff := by decide +kernel
theorem test_clrd : row8 (.clrd 8) (regs 0x0 0x0 0x11111111222222223333333344444444) =
    some 0x11111111222222220000000000000000 := by decide +kernel
theorem test_asrdi : row8 (.asrdi 4 6 8) (regs 0x0 0x800000000000f00f 0x0) =
    some 0xf800000000000f00 := by decide +kernel
theorem test_asldi : row8 (.asldi 4 6 8) (regs 0x0 0x800000000000f00f 0x0) = some 0xf00f0 := by decide +kernel
theorem test_lsrdi : row8 (.lsrdi 4 6 8) (regs 0x0 0x800000000000f00f 0x0) =
    some 0x800000000000f00 := by decide +kernel
theorem test_lsldi : row8 (.lsldi 4 6 8) (regs 0x0 0x800000000000f00f 0x0) = some 0xf00f0 := by decide +kernel
theorem test_asrd : row8 (.asrd 4 6 8) (regs 0x3f 0x800000000000f00f 0x0) =
    some 0xffffffffffffffff := by decide +kernel
theorem test_asld : row8 (.asld 4 6 8) (regs 0x3f 0x800000000000f00f 0x0) =
    some 0x8000000000000000 := by decide +kernel
theorem test_lsrd : row8 (.lsrd 4 6 8) (regs 0x3f 0x800000000000f00f 0x0) = some 0x1 := by decide +kernel
theorem test_lsld : row8 (.lsld 4 6 8) (regs 0x3f 0x800000000000f00f 0x0) =
    some 0x8000000000000000 := by decide +kernel
theorem test_rord0 : row8 (.rord 6 8) (regs 0x0 0x800000000000f00f 0x0) = some 0x4000000000007807 := by decide +kernel
theorem test_rord1 : row8 (.rord 6 8) (with' (fun k => { k with ccr := 1 }) (regs 0x0 0x800000000000f00f 0x0)) =
    some 0xc000000000007807 := by decide +kernel
theorem test_rold0 : row8 (.rold 6 8) (regs 0x0 0x800000000000f00f 0x0) = some 0x1e01e := by decide +kernel
theorem test_rold1 : row8 (.rold 6 8) (with' (fun k => { k with ccr := 1 }) (regs 0x0 0x800000000000f00f 0x0)) =
    some 0x1e01f := by decide +kernel
theorem test_asrxl : row8 (.asrxl 4 6 8) (regs 0x4 0x800000107ffffff0 0x0) =
    some 0xf800000107ffffff := by decide +kernel
theorem test_aslxl : row8 (.aslxl 4 6 8) (regs 0x4 0x800000107ffffff0 0x0) = some 0x100ffffff00 := by decide +kernel
theorem test_lsrxl : row8 (.lsrxl 4 6 8) (regs 0x40008 0x800000107ffffff0 0x0) =
    some 0x8000001007fffff := by decide +kernel
theorem test_lslxl : row8 (.lslxl 4 6 8) (regs 0x4001f 0x800000107ffffff0 0x0) =
    some 0x10000000000 := by decide +kernel
theorem test_smbd : row8 (.smbd 6 8) (regs 0x0 0x800000000000f00f 0x0) = some 0x9 := by decide +kernel
theorem test_asrde : row8 (.asrde 4 6 8) (with' (fun k => { k with eBit := true }) (regs 0x8 0x5 0x4000000000000000)) =
    some 0x40000000000000 := by decide +kernel
theorem test_ml2 : row8 (.ml2 4 6 8) (regs 0xfffffffe00010000 0x300010000 0x0) =
    some 0xfffffffffffffffa0000000100000000 := by decide +kernel
theorem test_uml2 : row8 (.uml2 4 6 8) (regs 0xfffffffe00000002 0xffffffffffffffff 0x0) =
    some 0xfffffffe0000000200000001fffffffe := by decide +kernel
theorem test_uml : row8 (.uml 4 6 8) (regs 0xffffffff 0xffffffff 0x0) = some 0xfffffffe00000001 := by decide +kernel
theorem test_mf8 : row8 (.mf8 4 6 8) (regs 0x800040007fff2000800040007fff2000 0x800040007fffc0000001000140004000 0x0) =
    some 0x800020007ffef000ffff000040001000 := by decide +kernel
theorem test_mf4 : row8 (.mf4 4 6 8) (regs 0x800040007fff2000 0x800040007fffc000 0x0) =
    some 0x800020007ffef000 := by decide +kernel
theorem test_mf4_sat : row8 (.mf4 4 6 8) (with' (fun k => { k with sat := true }) (regs 0x800040007fff2000 0x800040007fffc000 0x0)) =
    some 0x7fff20007ffef000 := by decide +kernel
theorem test_mfx2 : row8 (.mfx2 4 6 8) (regs 0x4000400020006000 0x4000c00040004000 0x0) =
    some 0x40000000e0004000 := by decide +kernel
theorem test_mfxc2 : row8 (.mfxc2 4 6 8) (regs 0x4000400020006000 0x4000c00040004000 0x0) =
    some 0x400040002000 := by decide +kernel
theorem test_mfx : row8 (.mfx 4 6 8) (regs 0x40004000 0x4000c000 0x0) = some 0x40000000 := by decide +kernel
theorem test_mfx_wraps : row8 (.mfx 4 6 8) (regs 0x80000000 0x80000000 0x0) = some 0x80000000 := by decide +kernel
theorem test_mfxc : row8 (.mfxc 4 6 8) (regs 0x40004000 0x4000c000 0x0) = some 0x4000 := by decide +kernel
theorem test_mfa81 : row8 (.mfa81 4 6 8) (regs 0x40004000400040002000200020002000 0x4000400040004000400040004000c000 0x0) =
    some 0xa000 := by decide +kernel
theorem test_mfa42 : row8 (.mfa42 4 6 8) (regs 0x40004000400040002000200020002000 0x4000400040004000400040004000c000 0x0) =
    some 0x80002000 := by decide +kernel
theorem test_mfa41 : row8 (.mfa41 4 6 8) (regs 0x2000200020002000 0x400040004000c000 0x0) =
    some 0x2000 := by decide +kernel
theorem test_mfa24 : row8 (.mfa24 4 6 8) (regs 0x40004000400040002000200020002000 0x4000400040004000400040004000c000 0x0) =
    some 0x4000400020000000 := by decide +kernel
theorem test_mfa22 : row8 (.mfa22 4 6 8) (regs 0x2000200020002000 0x400040004000c000 0x0) =
    some 0x20000000 := by decide +kernel
theorem test_mfa21_tie : row8 (.mfa21 4 6 8) (regs 0x30000 0x40000000 0x0) = some 0x2 := by decide +kernel
theorem test_mfa21 : row8 (.mfa21 4 6 8) (regs 0x20002000 0x4000c000 0x0) = some 0x0 := by decide +kernel
theorem test_m4 : row8 (.m4 4 6 8) (regs 0x8000ffff00037fff 0x80000002fffe7fff 0x0) =
    some 0x40000000fffffffefffffffa3fff0001 := by decide +kernel
theorem test_m2 : row8 (.m2 4 6 8) (regs 0xffff0100 0x20100 0x0) = some 0xfffffffe00010000 := by decide +kernel
theorem test_a8 : row8 (.a8 4 6 8) (regs 0x1ffff7fff80000003000400050006 0x100010001ffff7fff8000000a0003 0x0) =
    some 0x2000080007fff80028004000f0009 := by decide +kernel
theorem test_a8_sat : row8 (.a8 4 6 8) (with' (fun k => { k with sat := true }) (regs 0x1ffff7fff80000003000400050006 0x100010001ffff7fff8000000a0003 0x0)) =
    some 0x200007fff80007fff8004000f0009 := by decide +kernel
theorem test_s8 : row8 (.s8 4 6 8) (regs 0x1ffff7fff80000003000400050006 0x100010001ffff7fff8000000a0003 0x0) =
    some 0x280027fff7ffc7ffc0005fffd := by decide +kernel
theorem test_s8_sat : row8 (.s8 4 6 8) (with' (fun k => { k with sat := true }) (regs 0x1ffff7fff80000003000400050006 0x100010001ffff7fff8000000a0003 0x0)) =
    some 0x280027fff7ffc80000005fffd := by decide +kernel
theorem test_ms8 : row8 (.ms8 4 6 8) (regs 0x1ffff7fff80000003000400050006 0x100010001ffff7fff8000000a0003 0x0) =
    some 0x27ffe7fff7ffc800400050003 := by decide +kernel
theorem test_ms8_sat : row8 (.ms8 4 6 8) (with' (fun k => { k with sat := true }) (regs 0x1ffff7fff80000003000400050006 0x100010001ffff7fff8000000a0003 0x0)) =
    some 0x27ffe7fff7ffc7fff00050003 := by decide +kernel
theorem test_a4 : row8 (.a4 4 6 8) (regs 0x3000400050006 0x7fff8000000a0003 0x0) =
    some 0x80028004000f0009 := by decide +kernel
theorem test_a4_sat : row8 (.a4 4 6 8) (with' (fun k => { k with sat := true }) (regs 0x3000400050006 0x7fff8000000a0003 0x0)) =
    some 0x7fff8004000f0009 := by decide +kernel
theorem test_s4 : row8 (.s4 4 6 8) (regs 0x3000400050006 0x7fff8000000a0003 0x0) =
    some 0x7ffc7ffc0005fffd := by decide +kernel
theorem test_ms4_sat : row8 (.ms4 4 6 8) (with' (fun k => { k with sat := true }) (regs 0x3000400050006 0x7fff8000000a0003 0x0)) =
    some 0x7ffc7fff00050003 := by decide +kernel
theorem test_ms2 : row8 (.ms2 4 6 8) (regs 0x50006 0xa0003 0x0) = some 0x50003 := by decide +kernel
theorem test_all4 : row8 (.all4 4 6 8) (regs 0x7fffffff8000000000000001ffffffff 0x1ffffffff0000000200000001 0x0) =
    some 0x800000007fffffff0000000300000000 := by decide +kernel
theorem test_all4_sat : row8 (.all4 4 6 8) (with' (fun k => { k with sat := true }) (regs 0x7fffffff8000000000000001ffffffff 0x1ffffffff0000000200000001 0x0)) =
    some 0x7fffffff800000000000000300000000 := by decide +kernel
theorem test_all2 : row8 (.all2 4 6 8) (regs 0x1ffffffff 0x200000001 0x0) = some 0x300000000 := by decide +kernel
theorem test_al4 : row8 (.al4 4 6 8) (regs 0x7fff80000001ffff 0x7fffffff800000000000000100000000 0x0) =
    some 0x80007ffe7fff800000000002ffffffff := by decide +kernel
theorem test_al2 : row8 (.al2 4 6 8) (regs 0x1ffff 0x100000000 0x0) = some 0x2ffffffff := by decide +kernel
theorem test_a81 : row8 (.a81 6 8) (regs 0x0 0x7fff7fff0001000180008000ffff0002 0x0) = some 0x1 := by decide +kernel
theorem test_a81_scaled : row8 (.a81 6 8) (with' (fun k => { k with scale := 3, scaledAt := [0] }) (regs 0x0 0x7fff7fff7fff7fff7fff7fff7fff7fff 0x0)) =
    some 0x7fff := by decide +kernel
theorem test_a42 : row8 (.a42 6 8) (regs 0x0 0x7fff7fff0001000180008000ffff0002 0x0) = some 0x1 := by decide +kernel
theorem test_a42_sat : row8 (.a42 6 8) (with' (fun k => { k with sat := true }) (regs 0x0 0x7fff7fff0001000180008000ffff0002 0x0)) =
    some 0x7fff8000 := by decide +kernel
theorem test_a24 : row8 (.a24 6 8) (regs 0x0 0x7fff7fff0001000180008000ffff0002 0x0) =
    some 0xfffe000200000001 := by decide +kernel
theorem test_allft41 : row8 (.allft41 6 8) (regs 0x0 0x40000000400000000000800000018000 0x0) =
    some 0x8002 := by decide +kernel
theorem test_allft22 : row8 (.allft22 6 8) (regs 0x0 0x40000000400000000000800000018000 0x0) =
    some 0x80000002 := by decide +kernel
theorem test_asx2 : row8 (.asx2 4 6 8) (regs 0x1000200030004 0xa0014001e0028 0x0) =
    some 0x90012000b0016001b00240021002c := by decide +kernel
theorem test_asxs2 : row8 (.asxs2 4 6 8) (regs 0x1000200030004 0xa0014001e0028 0x0) =
    some 0x80015001a002b000c001300220025 := by decide +kernel
theorem test_asxs : row8 (.asxs 4 6 8) (regs 0x30004 0x1e0028 0x0) = some 0x1a002b00220025 := by decide +kernel
theorem test_ra8 : row8 (.ra8 4 6 8) (regs 0x10002000300040005000600070008 0xa0014001e00280032003c00460050 0x64) =
    some 0x1a8019f018d0172014e012100eb00ac := by decide +kernel
theorem test_ra4 : row8 (.ra4 4 6 8) (regs 0x5000600070008 0x32003c00460050 0x7fff) =
    some 0x80e980bc80868047 := by decide +kernel
theorem test_sga8 : row8 (.sga8 4 6 8) (regs 0xa5 0xa0014001e00280032003c00460050 0x10002000300040005000600070008) =
    some 0xfff70016ffe5002c0037ffca004dffb8 := by decide +kernel
theorem test_sga4 : row8 (.sga4 4 6 8) (regs 0x6 0x7fff800000010001 0x1000100010001) =
    some 0x8000800100000002 := by decide +kernel
theorem test_sga4_sat : row8 (.sga4 4 6 8) (with' (fun k => { k with sat := true }) (regs 0x6 0x7fff800000010001 0x1000100010001)) =
    some 0x7fff7fff00000002 := by decide +kernel
theorem test_a8s : row8 (.a8s 4 6 8) (with' (fun k => { k with scale := 1 }) (regs 0x1ffff7fff80000003000400050006 0x100010001ffff7fff8000000a0003 0x0)) =
    some 0x100004000bfff4001c00200070004 := by decide +kernel
theorem test_s8s : row8 (.s8s 4 6 8) (with' (fun k => { k with scale := 1 }) (regs 0x1ffff7fff80000003000400050006 0x100010001ffff7fff8000000a0003 0x0)) =
    some 0x1c0013fff3ffebffe0002fffe := by decide +kernel
theorem test_bf4 : row8 (.bf4 4 6 8) (regs 0x1000200030004 0xa0014001e0028 0x0) =
    some 0x80015001b0024000c00130021002c := by decide +kernel
theorem test_bif4 : row8 (.bif4 4 6 8) (regs 0x1000200030004 0xa0014001e0028 0x0) =
    some 0xc0013001b0024000800150021002c := by decide +kernel
theorem test_axj4 : row8 (.axj4 4 6 8) (regs 0x10002000300040005000600070008 0xa0014001e00280032003c00460050 0x0) =
    some 0x80015001a002b002c0041003e0057 := by decide +kernel
theorem test_sxj4 : row8 (.sxj4 4 6 8) (regs 0x10002000300040005000600070008 0xa0014001e00280032003c00460050 0x0) =
    some 0xc00130022002500380037004e0049 := by decide +kernel
theorem test_cmpn4 : row8 (.cmpn4 4 6 8) (regs 0x5800000037fff 0x47fff00038000 0x123456789abcdef0) =
    some 0x9123456789abcdef := by decide +kernel
theorem test_cmpz4 : row8 (.cmpz4 4 6 8) (regs 0x5800000037fff 0x47fff00038000 0x123456789abcdef0) =
    some 0x2123456789abcdef := by decide +kernel
theorem test_cmpn8 : row8 (.cmpn8 4 6 8) (regs 0x5800000037fff0000000100020003 0x47fff000380000000000000020004 0xffffffffffffffff00000000000000ff) =
    some 0x94ffffffffffffffff00000000000000 := by decide +kernel
theorem test_cmpz8 : row8 (.cmpz8 4 6 8) (regs 0x5800000037fff0000000100020003 0x47fff000380000000000000020004 0xffffffffffffffff00000000000000ff) =
    some 0x2affffffffffffffff00000000000000 := by decide +kernel
theorem test_cmpnl2 : row8 (.cmpnl2 4 6 8) (regs 0x7fffffff00000005 0x8000000000000005 0x123456789abcdef0) =
    some 0x848d159e26af37bc := by decide +kernel
theorem test_cmpzl2 : row8 (.cmpzl2 4 6 8) (regs 0x8000000000000005 0x7fffffff00000005 0x123456789abcdef0) =
    some 0x448d159e26af37bc := by decide +kernel
theorem test_cmpnl4 : row8 (.cmpnl4 4 6 8) (regs 0x800000000000000500000001ffffffff 0x7fffffff0000000500000000ffffffff 0xffffffffffffffff00000000000000ff) =
    some 0x2ffffffffffffffff00000000000000f := by decide +kernel
theorem test_cmpzl4 : row8 (.cmpzl4 4 6 8) (regs 0x800000000000000500000001ffffffff 0x7fffffff0000000500000000ffffffff 0xffffffffffffffff00000000000000ff) =
    some 0x5ffffffffffffffff00000000000000f := by decide +kernel
theorem test_max4 : row8 (.max4 4 6 8) (regs 0x10 0x30009ffff0009 0x5aaaabbbb0000) =
    some 0x9aaaabbbb0010 := by decide +kernel
theorem test_max4_high : row8 (.max4 4 6 8) { (regs 0x10 0x30009ffff0009 0x5aaaabbbb0000) with cfg := { resetConfig with maxminTie := .highest } } =
    some 0x9aaaabbbb0012 := by decide +kernel
theorem test_maxl2 : row8 (.maxl2 4 6 8) (regs 0x4 0x11ffffffff 0x10aaaa0007) = some 0x11aaaa0005 := by decide +kernel
theorem test_maxl2_none : row8 (.maxl2 4 6 8) (regs 0x4 0xfffffffff 0x10aaaa0007) =
    some 0x10aaaa0007 := by decide +kernel
theorem test_max8 : row8 (.max8 4 6 8) (regs 0xfffe 0x100027fff00040005000600070008 0x8000111122223333) =
    some 0x7fff111122220003 := by decide +kernel
theorem test_maxl4 : row8 (.maxl4 4 6 8) (regs 0x20 0x17fffffff8000000000000002 0x10aaaa0007) =
    some 0x7fffffffaaaa0022 := by decide +kernel
theorem test_min4 : row8 (.min4 4 6 8) (regs 0x10 0x30009ffff0009 0x5aaaabbbb0000) =
    some 0xffffaaaabbbb0011 := by decide +kernel
theorem test_min4_none : row8 (.min4 4 6 8) (regs 0x10 0x6000900070009 0x5aaaabbbb0000) =
    some 0x5aaaabbbb0000 := by decide +kernel
theorem test_minl2 : row8 (.minl2 4 6 8) (regs 0x4 0x11ffffffff 0x10aaaa0007) =
    some 0xffffffffaaaa0004 := by decide +kernel
theorem test_min8 : row8 (.min8 4 6 8) (regs 0x8 0x100027fff00048000000600070008 0x7fff111122223333) =
    some 0x800011112222000b := by decide +kernel
theorem test_minl4 : row8 (.minl4 4 6 8) (regs 0x20 0x17fffffff8000000000000002 0x10aaaa0007) =
    some 0x80000000aaaa0021 := by decide +kernel
theorem test_trs0 : row8 (.trs0 6 8) (regs 0x0 0x112233445566778899aabbccddeeff 0x0) =
    some 0x112233445566778899aabbccddeeff := by decide +kernel
theorem test_trs0B : row8 (.trs0B 6 8) (regs 0x0 0x112233445566778899aabbccddeeff 0x0) =
    some 0x112233445566778899aabbccddeeff := by decide +kernel
theorem test_trs1 : row8 (.trs1 4 6 8) (regs 0xaaaabbbbccccdddd 0x1111222233334444 0x0) =
    some 0xdddd111122223333 := by decide +kernel
theorem test_trs2 : row8 (.trs2 4 6 8) (regs 0xaaaabbbbccccdddd 0x1111222233334444 0x0) =
    some 0xccccdddd11112222 := by decide +kernel
theorem test_trs3 : row8 (.trs3 4 6 8) (regs 0xaaaabbbbccccdddd 0x1111222233334444 0x0) =
    some 0xbbbbccccdddd1111 := by decide +kernel
theorem test_trs4 : row8 (.trs4 6 8) (regs 0x0 0x7f80ff0100c03412 0x0) =
    some 0x7f008000ff0001000000c00034001200 := by decide +kernel
theorem test_trs5 : row8 (.trs5 6 8) (regs 0x0 0x7f80ff0100c03412 0x0) =
    some 0x7fff80ffff00010000ffc000340012 := by decide +kernel
theorem test_trs6 : row8 (.trs6 6 8) (regs 0x0 0x7f80ff0100c03412 0x0) =
    some 0x7f008000ff0001000000c000340012 := by decide +kernel
theorem test_trs7 : row8 (.trs7 6 8) (regs 0x0 0x7fff800000800180ff80fe80123400ff 0x0) =
    some 0x7f80000200fe1201 := by decide +kernel
theorem test_trs8 : row8 (.trs8 6 8) (regs 0x0 0x7fff800000800180ff80fe80123400ff 0x0) =
    some 0xff0080ff0000ffff := by decide +kernel
theorem test_trs19 : row8 (.trs19 6 8) (regs 0x0 0x7fff800000800180ff80fe80123400ff 0x0) =
    some 0x7f807f7f80807f7f := by decide +kernel
theorem test_trs9 : row8 (.trs9 6 8) (regs 0x0 0x1111222233334444 0x0) = some 0x4444333322221111 := by decide +kernel
theorem test_trs10 : row8 (.trs10 6 8) (regs 0x0 0x1111222233334444 0x0) =
    some 0x1111333322224444 := by decide +kernel
theorem test_trs11 : row8 (.trs11 4 6 8) (regs 0xaaaabbbbccccdddd 0x1111222233334444 0x0) =
    some 0xaaaabbbb11112222ccccdddd33334444 := by decide +kernel
theorem test_trs12 : row8 (.trs12 4 6 8) (regs 0xaaaabbbbccccdddd 0x1111222233334444 0x0) =
    some 0xaaaa1111bbbb2222cccc3333dddd4444 := by decide +kernel
theorem test_trs13 : row8 (.trs13 4 6 8) (regs 0xaaaabbbbccccdddd 0x1111222233334444 0x0) =
    some 0xaaaacccc11113333bbbbdddd22224444 := by decide +kernel
theorem test_trs14 : row8 (.trs14 4 6 8) (regs 0x9999001f0040ffff 0x200015000a 0x0) =
    some 0xffe0faaa := by decide +kernel
theorem test_trs15 : row8 (.trs15 6 8) (regs 0x0 0x7fff80000001800000017fffffff8000 0x0) =
    some 0x7fff000200010000 := by decide +kernel
theorem test_trs16 : row8 (.trs16 6 8) (regs 0x0 0x12345ffff000000007ffffffffffe 0x0) =
    some 0x7fff80007ffffffe := by decide +kernel
theorem test_trs17 : row8 (.trs17 6 8) (regs 0x0 0x12345ffff000000007ffffffffffe 0x0) =
    some 0xffff00007fff0000 := by decide +kernel
theorem test_trs18 : row8 (.trs18 4 6 8) (regs 0x8001 0xf0 0x0) = some 0x80005502 := by decide +kernel
theorem test_trs18B : row8 (.trs18B 4 6 8) (regs 0x8001 0xf0 0x0) = some 0x80005502 := by decide +kernel
theorem test_trdB : row8 (.trdB 6 8) (regs 0x0 0x123456789abcdef0 0x0) = some 0x123456789abcdef0 := by decide +kernel

/-! ### Floating point: which parts meet, under any float32 functions (95_test_vectors.md F1..F7) -/

/-- F1..F7 read as terms: T = {2.0, 3.0}, S = {0.5, 4.0}. -/
theorem test_fm2 (σ : State) : exec (.fm2 4 6 8) σ = .next (σ.onMe fun k => k.setD 8
    (two32 (Config.fmul32 (wp (σ.me.d 4) 1) (wp (σ.me.d 6) 1))
      (Config.fmul32 (wp (σ.me.d 4) 0) (wp (σ.me.d 6) 0)))) := rfl
theorem test_fasxs_odd : refusal (.fasxs 4 6 9) State.reset = some .oddQuad := by decide +kernel

/-! ### Accumulators (A1..A23) -/

/-- T, S of A1..A9 in rows 2, 3, ACC64[0] = -1. -/
def macState : State :=
  with' (fun k => k.setAcc64 0 0xFFFFFFFFFFFFFFFF)
    (regs 0x0001000200030004000500060007FFF8 0x00010001000100010002000200020002 0)
/-- ACC64[3] .. ACC64[0] after an instruction. -/
def accs (x : Instr) (σ : State) : Option (List Dbl) := after x σ fun τ => [3, 2, 1, 0].map τ.me.acc64
/-- ACC64[7] .. ACC64[0] after an instruction. -/
def allAccs (x : Instr) (σ : State) : Option (List Dbl) :=
  after x σ fun τ => [7, 6, 5, 4, 3, 2, 1, 0].map τ.me.acc64

theorem test_mac81 : accs (.mac81 4 6 0) macState = some [0, 0, 0, 0x1D] := by decide +kernel
theorem test_mac42 : accs (.mac42 4 6 0) macState = some [0, 0, 0xA, 0x13] := by decide +kernel
theorem test_mac41 : accs (.mac41 4 6 0) macState = some [0, 0, 0, 0x13] := by decide +kernel
theorem test_mac24 : accs (.mac24 4 6 0) macState = some [3, 7, 0x16, 0xFFFFFFFFFFFFFFFD] := by decide +kernel
theorem test_mac22 : accs (.mac22 4 6 0) macState = some [0, 0, 0x16, 0xFFFFFFFFFFFFFFFD] := by decide +kernel
theorem test_mac21 : accs (.mac21 4 6 0) macState = some [0, 0, 0, 0xFFFFFFFFFFFFFFFD] := by decide +kernel
theorem test_mac18 : allAccs (.mac18 4 6) macState = some [1, 2, 3, 4, 0xA, 0xC, 0xE, 0xFFFFFFFFFFFFFFEF] := by
  decide +kernel
theorem test_mac14 : accs (.mac14 4 6 0) macState = some [0xA, 0xC, 0xE, 0xFFFFFFFFFFFFFFEF] := by decide +kernel
theorem test_mac12 : accs (.mac12 4 6 0) macState = some [0, 0, 0xE, 0xFFFFFFFFFFFFFFEF] := by decide +kernel
theorem test_mac11_wraps : accs (.mac11 4 6 3) (with' (fun k => k.setAcc64 3 0x7FFFFFFFFFFFFFFF) (regs 0x8000 0x8000 0)) =
    some [0x800000003FFFFFFF, 0, 0, 0] := by decide +kernel
theorem test_mac11 : allAccs (.mac11 4 6 7) (regs 0xFFFE 3 0) = some [0xFFFFFFFFFFFFFFFA, 0, 0, 0, 0, 0, 0, 0] := by
  decide +kernel
theorem test_macx2 : accs (.macx2 4 6 2) (regs 0x0001000200030004 0x0005000600070008 0) =
    some [0xFFFFFFFFFFFFFFEE, 0x44, 0, 0] := by decide +kernel
theorem test_macxc2 : accs (.macxc2 4 6 2) (regs 0x0001000200030004 0x0005000600070008 0) = some [0x46, 8, 0, 0] := by
  decide +kernel
theorem test_macx : accs (.macx 4 6 0) (regs 0x00030004 0x00070008 0) = some [0, 0, 0xFFFFFFFFFFFFFFF5, 0x34] := by
  decide +kernel
theorem test_macxc : accs (.macxc 4 6 0) (regs 0x00030004 0x00070008 0) = some [0, 0, 0x35, 4] := by decide +kernel
theorem test_macl2 : accs (.macl2 4 6 1) (regs 0x8000000000000003 0x8000000000000005 0) =
    some [0, 0, 0x400000000000000F, 0] := by decide +kernel
theorem test_acsg8 : allAccs (.acsg8 4 6) (regs 0x00A5 0x00080007000600050004000300028000 0) =
    some [0xFFFFFFFFFFFFFFF8, 7, 0xFFFFFFFFFFFFFFFA, 5, 4, 0xFFFFFFFFFFFFFFFD, 2, 0x8000] := by decide +kernel
/-- By hand from R298: T = 0101b negates s2 and s0. -/
theorem test_acsg4 : accs (.acsg4 4 6 0) (regs 5 0x0004000300020001 0) =
    some [4, 0xFFFFFFFFFFFFFFFD, 2, 0xFFFFFFFFFFFFFFFF] := by decide +kernel
/-- By hand from R299, R300. -/
theorem test_acsg2 : accs (.acsg2 4 6 2) (regs 2 0x00030001 0) = some [0xFFFFFFFFFFFFFFFD, 1, 0, 0] := by decide +kernel
theorem test_acsg1 : accs (.acsg1 4 6 3) (regs 1 0x8000 0) = some [0x8000, 0, 0, 0] := by decide +kernel
/-- By hand from R295: pair 0 only, T = 1 + 2j, S = 3 + 4j in upper bytes: re 1*3 + 2*4, im 2*3 - 1*4. -/
theorem test_macxb4 : accs (.macxb4 4 6 0) (regs 0x01000200 0x03000400 0) = some [0, 0, 11, 2] := by decide +kernel
theorem test_clrac : after (.clrac 4)
    (with' (fun k => ((k.setAcL 0 0x11111111).setAcL 1 0x22222222).setAcL 2 0x33333333) (regs 5 0 0))
    (fun τ => [τ.me.acL 0, τ.me.acL 1, τ.me.acL 2]) = some [0, 0x22222222, 0] := by decide +kernel
theorem test_ldac : row8 (.ldac 4 8) (with' (fun k => k.setAcL 3 0xDEADBEEF) (regs 8 0 0)) = some 0xDEADBEEF := by
  decide +kernel
theorem test_ldacd : row8 (.ldacd 4 8) (with' (fun k => k.setAcc64 2 0x0000000180000000) (regs 4 0 0)) =
    some 0x0000000180000000 := by decide +kernel
theorem test_stac : after (.stac 4 6) (regs 0x8000 0x12345678 0) (fun τ => τ.me.acL 15) = some 0x12345678 := by
  decide +kernel
theorem test_stacd : after (.stacd 4 6) (regs 1 0xFFFFFFFFFFFFFFFF 0) (fun τ => (τ.me.acL 1, τ.me.acL 0)) =
    some (0xFFFFFFFF, 0xFFFFFFFF) := by decide +kernel
theorem test_ldac_selector : refusal (.ldac 4 8) (regs 3 0 0) = some .selector ∧
    refusal (.ldac 4 8) (regs 0 0 0) = some .selector := by decide +kernel
theorem test_ldacd_selector : refusal (.ldacd 4 8) (regs 0x100 0 0) = some .selector := by decide +kernel

/-! ### Flags and refused amounts (S9, L10, L11, L22, U32) -/

theorem test_rord_flag : after (.rord 6 8) (regs 0 0x800000000000F00F 0) State.flagC = some true := by decide +kernel
theorem test_rold_flag : after (.rold 6 8) (regs 0 0x800000000000F00F 0) State.flagC = some true := by decide +kernel
theorem test_btstdi : [4, 0, 31].map (fun n => after (.btstdi n 6) (regs 0 0x123456789ABCDEF0 0) State.flagC) =
    [some true, some false, some true] := by decide +kernel
theorem test_btstd : after (.btstd 4 6) (regs 0x3C 0x123456789ABCDEF0 0) State.flagC = some true ∧
    after (.btstd 4 6) (regs 0x3F 0x123456789ABCDEF0 0) State.flagC = some false := by decide +kernel
theorem test_btstd_refused : refusal (.btstd 4 6) (regs 0x40 0 0) = some .shiftAmount := by decide +kernel
theorem test_asrd_refused : refusal (.asrd 4 6 8) (regs 0x40 0 0) = some .shiftAmount := by decide +kernel
theorem test_negde_flag : after (.negde 6 8) (regs 0 0x8000000000000000 0) State.flagV = some true ∧
    after (.negde 6 8) (regs 0 1 0) State.flagV = some false := by decide +kernel
theorem test_scale_three : refusal (.s4 4 6 8) (with' (fun k => { k with scale := 3, scaledAt := [0] }) (regs 0 0 0)) =
    some .scaleThree := by decide +kernel

/-! ### Moves (M1..M18) -/

/-- XYRAM words 0x1000 .. 0x1003 of M1, and A3. -/
def loadState (a3 : Word) : State :=
  let σ := (((State.reset.setXy 0x1000 0x11111111).setXy 0x1001 0x22222222).setXy 0x1002 0x33333333).setXy 0x1003
    0x44444444
  with' (fun k => k.setA 3 a3) σ

theorem test_move_m1 : after (.move9aX 9 true 1 3 true) (loadState 0x1000) (fun τ => (τ.me.q 18, τ.me.getA 3)) =
    some (0x44444444333333332222222211111111, 0x1004) := by decide +kernel
theorem test_move_m2 : after (.move9aX 9 false 2 3 true) (loadState 0x1000) (fun τ => (τ.me.d 18, τ.me.getA 3)) =
    some (0x2222222211111111, 0x0FFE) := by decide +kernel
theorem test_move_m3 : after (.move9aX 2 false 0 1 false)
    (with' (fun k => (k.setA 1 0x10).setD 4 0xAAAAAAAABBBBBBBB) State.reset) (fun τ => (τ.xy 0x10, τ.xy 0x11)) =
    some (0xBBBBBBBB, 0xAAAAAAAA) := by decide +kernel
theorem test_move_m4 : after (.move9aX 9 true 1 3 true) (loadState 0xFFFC) (fun τ => τ.me.getA 3) = some 0 := by
  decide +kernel
theorem test_move_m5_m6 : refusal (.move9aX 9 true 1 3 true) (loadState 0xFFFE) = some .pageCross ∧
    refusal (.move9aX 9 true 1 3 true) (loadState 0x1FFE) = some .pageCross := by decide +kernel
theorem test_move_m8 : refusal (.move9aX 9 true 1 3 true) (loadState 0x10000) = some .pointerHigh := by decide +kernel
theorem test_move_m10 : after (.move9aY 3 false) (with' (fun k => { k with dt := 0xFFFE }) State.reset)
    (fun τ => τ.me.ptrT) = some 0x3FFE := by decide +kernel
theorem test_move_m11 : after (.move9bR 12 14 true)
    (with' (fun k => k.setQ 12 0x00000004000000030000000200000001) State.reset)
    (fun τ => (τ.me.d 14, τ.me.d 15)) = some (0x0000000200000001, 0x0000000400000003) := by decide +kernel
/-- M13: the register move and the Y move both write R1.D. -/
theorem test_move_m13 : (match runBundle (.f9b .nop .nopB 2 0 1 false true) State.reset with
    | .refused r => some r | _ => none) = some .partConflict := by decide +kernel
theorem test_move_m14 : after (.move9dRC 31 .idr false true) { State.reset with turn := .dsp1 } (fun τ => τ.me.h 31) =
    some 0x1108 := by decide +kernel
theorem test_move_m15 : after (.move9dRC 5 (.a 3) true false)
    (with' (fun k => (k.setL 5 0x40).setA 3 0x8123) State.reset) (fun τ => τ.me.getA 3) = some 0x40 := by decide +kernel
theorem test_move_m16 : after (.move9dRC 5 (.a 3) false false)
    (with' (fun k => (k.setH 5 0x40).setA 3 0x18123) State.reset) (fun τ => τ.me.getA 3) = some 0x10040 := by
  decide +kernel
/-- M17, step 2: the second write of X7 waits. -/
theorem test_move_m17 : after (.move9dRC 6 (.x 7) false false) { State.reset with csr := 2, efr := 0x80 }
    (fun τ => (τ.me.wait, τ.efr)) = some (true, 0x80) := by decide +kernel
/-- M18: the upper half of X7 leaves EFR[7], the lower half sets it. -/
theorem test_move_m18 : (match busWrite 0x187FFF3C 1 State.reset with | .next τ => some τ.efr | _ => none) = some 0 ∧
    (match busWrite 0x187FFF38 1 State.reset with | .next τ => some τ.efr | _ => none) = some 0x80 := by decide +kernel

/-! ### Base-set statements, interrupts, steps (E2, E4, 60_exceptions.md) -/

/-- E2, right column: J A7 after the NOP; left column: refused at J A7. -/
theorem test_e2 :
    (match runStmt (.moveRc (.a 7) .w16 true 0) false (with' (fun k => k.setH 0 0x100) State.reset) with
      | .next σ => (match runStmt (.jumpAn 7) false σ with | .refused r => some (.inl r) | _ => none)
      | _ => none) = some (Sum.inl (β := Half) Refusal.jumpHazard) := by decide +kernel
/-- Taking an interrupt: the pc is pushed, IVAR entered, RUN set (R472, R473). -/
theorem test_interrupt :
    (match coreStep true (with' (fun k => { k with irqr := 1, imaskr := 1, pc := 5 }) State.reset) with
      | .next τ => some (τ.me.pc, τ.me.pcstack, τ.me.inIsr, τ.me.run)
      | _ => none) = some (0x1F00, [5], true, true) := by decide +kernel
theorem test_rti : after (.rti 0) (with' (fun k => { k with pcstack := [5], inIsr := true }) State.reset)
    (fun τ => (τ.me.pc, τ.me.pcstack, τ.me.inIsr)) = some (5, [], false) := by decide +kernel
theorem test_rti_empty : after (.rti 0) State.reset (fun τ => (τ.me.dcsr, τ.me.stackErr)) = some (2, true) := by
  decide +kernel
/-- A step runs the placed instruction: V5 with R2.D = 1, R4.D = 2 gives R6.D = 3 and moves the pc by two words. -/
theorem test_step :
    (match step ((with' (fun k => (k.setD 2 1).setD 4 2) State.reset).withFetchWord 64 0x220C0AE11189FF82) with
      | .next τ => some (τ.core0.d 6, τ.core0.pc)
      | _ => none) = some (3, 2) := by decide +kernel
/-- SYNSTART starts both cores (R484). -/
theorem test_synstart : (match busWrite 0x18481008 1 State.reset with
    | .next τ => some (τ.core0.run, τ.core1.run) | _ => none) = some (true, true) := by decide +kernel

/-- CSR_DSP is reachable with both clocks off (R121): SYNWORK is stored, SYNSTART sets RUN. -/
theorem test_csr_gated : (match busWrite 0x18481008 3 { State.reset with clk0 := false, clk1 := false } with
    | .next τ => some (τ.csr, τ.core0.run, τ.core1.run) | _ => none) = some (2, true, true) := by decide +kernel
/-- DCSR of DSP1 with its clock off is refused (R121), as is a reserved address (R91). -/
theorem test_bus_refusals : stop (busWrite 0x18880100 0 { State.reset with clk1 := false }) = some .clockOff ∧
    stop (busWrite 0x18420000 0 State.reset) = some .reservedAddress := by decide +kernel
/-- The CPU writes CCR of DSP0 (R95, R526). -/
theorem test_cpu_ccr : (match busWrite 0x18480160 5 State.reset with | .next τ => some τ.core0.ccr | _ => none) =
    some 5 := by decide +kernel
/-- SAR = 0xFFFF equals no PC (R487): at PC = 0xFFFF the fetch is refused (R527). -/
theorem test_pc_outside :
    stop (coreStep false (with' (fun k => { k with dcsr := 0x4000, pc := 0xFFFF }) State.reset)) =
      some .pcOutsidePram := by decide +kernel
/-- A 128-bit accumulator move exists in the one-word format only (R197, R198). -/
theorem test_moveRc_ac : stmtEffect (.moveRc (.ac 4) .w128 false 8) true State.reset = .error .widthBit ∧
    stmtEffect (.moveRc (.ac 4) .w128 false 8) false State.reset = .ok [.q 8 0] ∧
    stmtEffect (.moveRc (.ac 5) .w32 false 8) true State.reset = .ok [.l 8 0] := by decide +kernel
/-- The accumulator number in the T field, when CFG.MAC_N_FIELD selects it (R9): MAC11 adds R4 * R6 to AC4. -/
theorem test_mac_field : after (.mac11 4 6 31) { regs 2 3 0 with cfg := { resetConfig with macNField := .t } }
    (fun τ => τ.me.acc64 4) = some 6 := by decide +kernel

/-! ### Witnesses of the hypotheses of the obligations -/

theorem witness_DenormalsAndNormalization :
    State.reset.flagV = false ∧ (with' (fun k => { k with ccr := 2 }) State.reset).flagV = true ∧
    (regs 0 0x8000000000000000 0).me.d 6 = 0x8000000000000000 ∧ (regs 0 0x7FFFFFFFFFFFFFFF 0).me.d 6 ≠ 0 := by
  decide +kernel
theorem witness_RegisterShifts : ((regs 63 0 0).me.h 4).toNat ≤ 63 ∧ 63 < ((regs 64 0 0).me.h 4).toNat ∧
    ((regs 31 0 0).me.h 4).toNat ≤ 31 ∧ 31 < ((regs 32 0 0).me.h 4).toNat ∧
    (hp ((regs 0x001F001F 0 0).me.l 4) 1).toNat ≤ 31 ∧ (hp ((regs 0x001F001F 0 0).me.l 4) 0).toNat ≤ 31 ∧
    31 < (hp ((regs 0x00200000 0 0).me.l 4) 1).toNat ∧ 31 < (hp ((regs 0x00000020 0 0).me.l 4) 0).toNat := by
  decide +kernel
theorem witness_MantissaAndBitNumber : ((regs 63 0 0).me.h 4).toNat ≤ 63 ∧ (regs 63 0 0).me.eBit = false ∧
    (with' (fun k => { k with eBit := true }) (regs 63 0 0)).me.eBit = true ∧ 63 < ((regs 64 0 0).me.h 4).toNat := by
  decide +kernel
/-- The even registers of FloatingPoint, IntegerProducts, MixedAndFractionalProducts, FractionalSums, PackedCompare, Search16,
Search32, TransferPermutations, TransferConversions, NopAndRegisterMove, RegisterViews: the first and the last. -/
theorem witness_evenRegisters : quadOk 0 = true ∧ quadOk 30 = true := by decide
/-- The same for each statement by name. -/
theorem witness_FloatingPoint : quadOk 30 = true := by decide
theorem witness_IntegerProducts : quadOk 30 = true := by decide
theorem witness_MixedAndFractionalProducts : quadOk 30 = true ∧ quadOk 28 = true ∧ quadOk 0 = true := by decide
theorem witness_FractionalSums : quadOk 30 = true ∧ quadOk 0 = true := by decide
theorem witness_PackedCompare : quadOk 30 = true ∧ quadOk 28 = true ∧ quadOk 0 = true := by decide
theorem witness_Search16 : quadOk 30 = true := by decide
theorem witness_Search32 : quadOk 30 = true := by decide
theorem witness_TransferPermutations : quadOk 30 = true ∧ quadOk 0 = true := by decide
theorem witness_TransferConversions : quadOk 30 = true ∧ quadOk 0 = true := by decide
theorem witness_NopAndRegisterMove : quadOk 30 = true ∧ quadOk 0 = true := by decide
theorem witness_RegisterViews : quadOk 30 = true ∧ (unitMask 30 .w16).getLsbD 0 = false ∧
    (unitMask 31 .w32).getLsbD 127 = false ∧ (unitMask 31 .w64).getLsbD 0 = false ∧
    (unitMask 30 .w128).getLsbD 119 = false := by decide +kernel

/-- A core with a scaling parameter, the instruction at its pc scaled. -/
def scaled (k : BitVec 2) : State := with' (fun c => { c with scale := k, scaledAt := [0] }) State.reset

theorem witness_PackedLanes16 : shiftHere (scaled 2) = 2 ∧ quadOk 30 = true ∧ quadOk 0 = true := by decide +kernel
theorem witness_PackedLanes32 : shiftHere (scaled 2) = 2 ∧ quadOk 30 = true ∧ quadOk 0 = true := by decide +kernel
theorem witness_HorizontalSums : shiftHere (scaled 2) ≠ 3 ∧ shiftHere (scaled 3) = 3 ∧ quadOk 30 = true := by
  decide +kernel
theorem witness_ComplexPairs : shiftHere (scaled 2) ≠ 3 ∧ quadOk 30 = true ∧ quadOk 0 = true := by decide +kernel
theorem witness_AccumulatingSums : shiftHere (scaled 2) ≠ 3 ∧ (scaled 2).me.scale ≠ 3 ∧ quadOk 30 = true := by
  decide +kernel
theorem witness_ScaleThreeRefused : (scaled 3).me.scale = 3 ∧ (Instr.a8s 30 28 0).wf .d = true ∧
    (scaled 3).me.pc ∈ (scaled 3).me.scaledAt ∧ (Instr.s4 1 2 3).wf .d = true := by decide +kernel
theorem witness_LaneArithmetic : (0 < 1) ∧ 2 * |2 ^ 1 * rnd 3 1 - 3| = 2 ^ 1 ∧ rnd 3 1 = 2 := by decide
theorem witness_MoveAccumulators : (regs 0x8000 0 0).me.h 4 = BitVec.twoPow 16 15 ∧
    (regs 0x0080 0 0).me.h 4 = BitVec.twoPow 16 7 ∧ (∀ n < 16, (regs 3 0 0).me.h 4 ≠ BitVec.twoPow 16 n) ∧
    (∀ n < 8, (regs 0x100 0 0).me.h 4 ≠ BitVec.twoPow 16 n) := by decide +kernel
/-- The accumulator number in each field that CFG.MAC_N_FIELD may select. -/
theorem witness_MacSums : (accField State.reset.cfg.macNField 30 28 7).toNat ∈ [0, 1, 2, 3, 4, 5, 6, 7] ∧
    (accField State.reset.cfg.macNField 30 28 6).toNat ∈ [0, 2, 4, 6] ∧ (accField .t 4 28 31).toNat ∈ [0, 4] ∧
    quadOk 30 = true := by decide
theorem witness_MacSeparate : (accField State.reset.cfg.macNField 30 28 7).toNat ∈ [0, 1, 2, 3, 4, 5, 6, 7] ∧
    (accField State.reset.cfg.macNField 30 28 6).toNat ∈ [0, 2, 4, 6] ∧ (accField .s 30 4 31).toNat ∈ [0, 4] ∧
    quadOk 30 = true := by decide
theorem witness_MacComplex : (accField State.reset.cfg.macNField 31 31 6).toNat ∈ [0, 2, 4, 6] ∧
    (accField .t 0 31 31).toNat ∈ [0, 2, 4, 6] := by decide
theorem witness_MacAdditional : (accField State.reset.cfg.macNField 30 28 7).toNat ∈ [0, 1, 2, 3, 4, 5, 6, 7] ∧
    (accField State.reset.cfg.macNField 30 28 6).toNat ∈ [0, 2, 4, 6] ∧ (accField .s 30 4 31).toNat ∈ [0, 4] ∧
    quadOk 30 = true := by decide
/-- One term for each refusal that the statement speaks of. -/
theorem witness_IllFormedRefused : (Instr.trs0 1 2).check .d = some .oddQuad ∧
    (Instr.mac24 2 4 2).check State.reset.cfg.macNField = some .accumulator ∧
    (Instr.move9dRC 0 .ccr true true).check .d = some .widthBit ∧
    (Instr.move9dRC 0 (.ac 2) true true).check .d = some .accumulatorView ∧
    (Instr.move9dRC 0 .sp false true).check .d = some .stackRegister := by decide

/-- A core with a given A0 and AT, mode codes as in the vectors. -/
def pointing (p : Word) : State := with' (fun k => { k.setA 0 p with ptrT := p }) State.reset

theorem witness_LoadX : true ≠ State.reset.cfg.deDir ∧ State.reset.cfg.aguMode.getD 3 .unknown ≠ .unknown ∧
    Reaches (pointing 0xFFFC) ((pointing 0xFFFC).me.getA 0) 4 ∧
    Reaches (pointing 0x1FFE) ((pointing 0x1FFE).me.getA 0) 2 ∧ isFar .dsp0 0x7FFF = false ∧
    isFar .dsp0 0x8000 = true := by unfold Reaches; decide +kernel
theorem witness_StoreX : Memory.wf (pointing 0xFFFC).mem = true ∧ false = State.reset.cfg.deDir ∧
    State.reset.cfg.aguMode.getD 0 .unknown ≠ .unknown ∧ Reaches (pointing 0xFFFC) ((pointing 0xFFFC).me.getA 0) 4 ∧
    Reaches (pointing 0x7FFC) ((pointing 0x7FFC).me.getA 0) 4 ∧ isFar .dsp0 0x7FFC = false ∧
    isFar .dsp0 0xFFFC = true := by unfold Reaches; decide +kernel
theorem witness_LoadY : State.reset.cfg.atMode.getD 3 .unknown ≠ .unknown ∧ ymFresh (pointing 0xFFFC) = false ∧
    Reaches (pointing 0xFFFC) (pointing 0xFFFC).me.ptrT 4 ∧ State.reset.cfg.atMode.getD 0 .unknown = .noUpdate := by
  unfold Reaches; decide +kernel
/-- A last instruction that changed SR.YM. -/
def freshYm : State :=
  with' (fun k => { k with hist := [{ addrRegs := 0, byMove := 0, byCompute := 0, ymChanged := true }] }) State.reset
theorem witness_MemoryMoveStops : ymFresh freshYm = true ∧ State.reset.cfg.atMode.getD 1 .unknown ≠ .noUpdate ∧
    State.reset.cfg.aguMode.getD 4 .unknown = .unknown ∧ (0x00010000 : Word).extractLsb' 16 16 ≠ 0 ∧
    0x2000 < ((0x1FFF : Word).extractLsb' 0 16).toNat % 0x2000 + 2 ∧
    0x2000 < ((0x1FFD : Word).extractLsb' 0 16).toNat % 0x2000 + 4 ∧
    ({ pointing 0x8000 with clk1 := false } : State).clk .dsp1 = false := by decide +kernel
theorem witness_MoveFromControl : true ≠ State.reset.cfg.deDir := by decide
theorem witness_MoveToControl : false = State.reset.cfg.deDir := by decide
theorem witness_MoveToReservedControl : false = State.reset.cfg.deDir ∧ (0x401F : Half) &&& 0xBFE0 = 0 ∧
    (0x0020 : Half) &&& 0xBFE0 ≠ 0 ∧ (0xF300000F : Word) &&& 0x0CFFFFF0 = 0 ∧ (0x00000010 : Word) &&& 0x0CFFFFF0 ≠ 0 ∧
    (0x3F37 : Half) &&& 0xC0C8 = 0 ∧ (0x0008 : Half) &&& 0xC0C8 ≠ 0 := by decide
theorem witness_MoveAccumulatorViews : true ≠ State.reset.cfg.deDir ∧ false = State.reset.cfg.deDir ∧
    quadOk 30 = true := by decide
theorem witness_ExchangeBuffer : State.reset.clk0 = true ∧ State.reset.synwork = false ∧
    ({ State.reset with csr := 2, efr := 0x80000000 } : State).synwork = true ∧
    ({ State.reset with csr := 2, efr := 0x80000000 } : State).efr.getLsbD 31 = true ∧
    (false == State.reset.cfg.deDir) = true ∧ ({ State.reset with clk0 := false } : State).clk0 = false ∧
    (let σ : State := { State.reset with csr := 2, efr := 0x80000000 }
     let b : Bundle := .f9d (.addd 2 4 6) .nopB 8 (.x 31) false false
     σ.me.bd = false ∧ gather σ b.parts =
        .ok [(.move9dRC 8 (.x 31) false false, [.block 31 true]), (.addd 2 4 6, [.d 6 0]), (.nopB, [])] ∧
      conflictOf σ b [(.move9dRC 8 (.x 31) false false, [.block 31 true]), (.addd 2 4 6, [.d 6 0]), (.nopB, [])] =
        none) := by
  decide +kernel
theorem witness_StartDma : false = State.reset.cfg.deDir ∧ (0x0300000F : Word) &&& 0xFCFFFFF0 = 0 ∧
    (0x00000010 : Word) &&& 0xFCFFFFF0 ≠ 0 := by decide
theorem witness_SaveRestoreCcr : false = State.reset.cfg.deDir ∧ true ≠ State.reset.cfg.deDir ∧
    (with' (fun k => { k with ccrSeen := [5] }) (regs 5 0 0)).me.h 4 ∈
      (with' (fun k => { k with ccrSeen := [5] }) (regs 5 0 0)).me.ccrSeen ∧
    (regs 5 0 0).me.h 4 ∉ (regs 5 0 0).me.ccrSeen := by decide +kernel
theorem witness_ReturnFromInterrupt : (0 : BitVec 4) = State.reset.cfg.ccAlways ∧
    (with' (fun k => { k with pcstack := [5] }) State.reset).me.pcstack = [5] ∧ State.reset.me.pcstack = [] ∧
    (1 : BitVec 4) ≠ State.reset.cfg.ccAlways := by decide +kernel

/-- A core with a pending unmasked request and a given vector and stack. -/
def requested (ivar : Half) (stack : List Half) : State :=
  with' (fun k => { k with irqr := 1, imaskr := 1, ivar := ivar, pcstack := stack }) State.reset

theorem witness_InterruptEntry : (requested 0x1FFF [7]).me.pending ≠ 0 ∧ (requested 0x1FFF [7]).me.ivar.toNat ≤ 0x1FFF ∧
    (requested 0x1FFF [7]).me.pcstack.length < (requested 0x1FFF [7]).cfg.stackDepth ∧
    State.reset.cfg.irqrAutoclear = false ∧
    ({ requested 0 [] with cfg := { resetConfig with irqrAutoclear := true } } : State).cfg.irqrAutoclear = true := by
  decide +kernel
theorem witness_InterruptAcceptance :
    (let σ := requested 0x2000 [7, 8]
     σ.clk σ.turn = true ∧ σ.me.stackErr = false ∧ σ.me.held = none ∧ σ.me.sarMatch = false ∧ σ.me.dbSarMatch = false ∧
      σ.me.irqr &&& σ.me.imaskr ≠ 0 ∧ σ.me.inIsr = false ∧ 0x1FFF < σ.me.ivar.toNat) ∧
    (requested 0x1FFF [7, 8]).me.ivar.toNat ≤ 0x1FFF ∧
    (requested 0x1FFF [7, 8]).cfg.stackDepth ≤ (requested 0x1FFF [7, 8]).me.pcstack.length ∧
    State.reset.me.irqr &&& State.reset.me.imaskr = 0 ∧ State.reset.me.stopped = true ∧
    (let σ := with' (fun k => { k with inIsr := true, dcsr := 0x4000 }) (requested 0 [])
     σ.me.inIsr = true ∧ σ.me.stopped = false) ∧
    (with' (fun k => { k with held := some (.bundle (.rti 0)) }) State.reset).me.held = some (.bundle (.rti 0)) ∧
    (let σ := with' (fun k => { k with stackErr := true, dcsr := 0x4000 }) State.reset
     σ.me.stackErr = true ∧ σ.me.stopped = false ∧ σ.me.held = none) := by decide +kernel

/-- V5 placed in PRAM. -/
def placed : State := State.reset.withFetchWord 64 0x220C0AE11189FF82
def bundle5 : Bundle := .f9d (.addd 2 4 6) (.lsldi 4 6 8) 31 .idr false false

theorem witness_StepRunsDecoded : bundle5.slotsOk = true ∧ placed.clk placed.turn = true ∧ placed.me.stackErr = false ∧
    placed.me.held = none ∧ placed.me.stopped = false ∧ placed.me.sarMatch = false ∧ placed.me.dbSarMatch = false ∧
    placed.me.accepts = false ∧ placed.me.baseCode = [] ∧ placed.me.pc.toNat < 0x1FFF ∧
    placed.pram placed.turn placed.me.pc.toNat = (encode placed.cfg.opRts bundle5).1 ∧
    isWide (encode placed.cfg.opRts bundle5).1 = true ∧
    placed.pram placed.turn (placed.me.pc.toNat + 1) = (encode placed.cfg.opRts bundle5).2 ∧ placed.sched = [] ∧
    placed.me.farq = [] := by decide +kernel
/-- The parts of two bundles and their writes: a register move with NOPs, and RTI. -/
theorem witness_BundleRunsItsParts : State.reset.me.bd = false ∧
    gather State.reset (Bundle.rti 0).parts = .ok [(.rti 0, [.leave])] ∧
    conflictOf State.reset (.rti 0) [(.rti 0, [.leave])] = none ∧ blocked [.leave] = false ∧
    (with' (fun k => { k with pcstack := [5] }) State.reset).me.pcstack = [5] ∧
    gather State.reset (Bundle.f9d .nop .nopB 4 .ivar false true).parts =
      .ok [(.move9dRC 4 .ivar false true, [.h 4 0x1F00]), (.nop, []), (.nopB, [])] ∧
    conflictOf State.reset (.f9d .nop .nopB 4 .ivar false true)
      [(.move9dRC 4 .ivar false true, [.h 4 0x1F00]), (.nop, []), (.nopB, [])] = none ∧
    blocked [.h 4 0x1F00] = false ∧
    (let σ := with' (fun k => { k with sr := 0x0400 }) State.reset
     σ.me.bd = true ∧ (σ.me.h 4).getLsbD 10 = false ∧ σ.cfg.deDir = false ∧
      gather σ (Bundle.f9d .nop .nopB 4 .sr false false).parts =
        .ok [(.move9dRC 4 .sr false false, [.ctl .sr 0]), (.nop, []), (.nopB, [])] ∧
      conflictOf σ (.f9d .nop .nopB 4 .sr false false)
        [(.move9dRC 4 .sr false false, [.ctl .sr 0]), (.nop, []), (.nopB, [])] = none) := by decide +kernel
/-- With SR.BD = 1 an instruction that does not clear it is not the allowed one. -/
theorem witness_BundleRunsItsParts_blocked :
    let σ := with' (fun k => { k with sr := 0x0400 }) State.reset
    ¬(σ.me.bd = false ∨ ∃ op1 op2 rr l, Bundle.rti 0 = .f9d op1 op2 rr .sr l σ.cfg.deDir ∧
      (σ.me.h rr).getLsbD 10 = false ∧ op1 ∈ [Instr.nop, .nopHi] ∧ op2 ∈ [Instr.nopB, .nopBMid, .nopBHi]) := by
  rintro σ (h | ⟨_, _, _, _, h, _⟩)
  · exact absurd h (by decide +kernel)
  · cases h
/-- A unit one part alone touches (R4), and one no part touches (R0). -/
theorem witness_PartsReadOldState : ∃ τ, runBundle (.f9d .nop .nopB 4 .ivar false true) State.reset = .next τ ∧
    gather State.reset (Bundle.f9d .nop .nopB 4 .ivar false true).parts =
      .ok ([] ++ (.move9dRC 4 .ivar false true, [.h 4 0x1F00]) :: [(.nop, []), (.nopB, [])]) ∧
    blocked [.h 4 0x1F00] = false ∧ (unionOf Write.units [.h 4 0x1F00]).getLsbD 0 = false ∧
    (unionOf Write.units []).getLsbD 16 = false ∧ ∃ ρ, exec (.move9dRC 4 .ivar false true) State.reset = .next ρ :=
  ⟨_, rfl, by decide +kernel, by decide +kernel, by decide +kernel, by decide +kernel, _, rfl⟩
theorem witness_BreakpointStops :
    (let σ := with' (fun k => { k with dcsr := 0x4000, dbDcsr := 0x4000, pc := 0x1FFF, sars := k.sars.set 7 0x1FFF,
                                       dbSars := k.dbSars.set 0 0x1FFF }) State.reset
     σ.clk σ.turn = true ∧ σ.me.stackErr = false ∧ σ.me.held = none ∧ σ.me.bpAt = none ∧ σ.me.dbBpAt = none ∧
      σ.me.run = true ∧ σ.me.pc.toNat ≤ 0x1FFF ∧ σ.me.pc ∈ σ.me.sars.toList ∧ σ.me.dbRun = true ∧
      σ.me.pc ∈ σ.me.dbSars.toList) ∧
    (let σ := with' (fun k => { k with dcsr := 0x4000, pc := 0x1FFF, sars := k.sars.set 7 0x1FFF }) State.reset
     σ.me.run = true ∧ σ.me.pc ∈ σ.me.sars.toList ∧ σ.me.dbRun = false) ∧
    (let σ := with' (fun k => { k with dcsr := 0x4000, pc := 0x2000 }) State.reset
     σ.me.stopped = false ∧ 0x1FFF < σ.me.pc.toNat) := by decide +kernel
theorem witness_MemoryReadAfterWrite : Memory.wf State.reset.mem = true ∧ 0x1FFF < 0x2000 ∧ (1 : Half) ≠ 0 := by
  decide +kernel
theorem witness_FarWritesInOrder :
    (let σ := with' (fun k => { k with farq := [{ addr := 0x8000, val := 1, old := false }] }) State.reset
     Memory.wf σ.mem = true ∧ (σ.core .dsp0).farq = { addr := 0x8000, val := 1, old := false } :: [] ∧
      σ.clk CoreId.dsp0.other = true) := by decide +kernel
/-- The invariant holds at reset, and a step from there answers a next state. -/
theorem witness_StepKeepsInvariant : State.reset.Inv ∧ ∃ τ, step State.reset = .next τ :=
  ⟨by unfold State.Inv Core.Inv; decide +kernel, _, rfl⟩
/-- Also an instruction with an odd `.Q` register, an accumulator number outside the list and a move of PC. -/
theorem witness_DecodeOfEncode : bundle5.slotsOk = true ∧ (Bundle.rti 15).slotsOk = true ∧
    (Bundle.f9d (.a8 1 3 5) (.mac24 2 4 31) 0 .pc true true).slotsOk = true := by decide

end Sys2Proof.Tests
end

section
/-! SUPPORT. The pseudocode primitives of 00_scope.md as integers (R15..R17), and the refusal of a scaling shift of 3. -/

namespace Sys2Proof.Machine

/-! ### Narrowing, rounding, shifting -/

/-- A number in the signed range of n bits survives `wrap_N`. -/
theorem toInt_wrap {n : Nat} {x : Int} (hn : 0 < n) (hlo : -(2 ^ (n - 1)) ≤ x) (hhi : x < 2 ^ (n - 1)) :
    (wrap n x).toInt = x :=
  BitVec.toInt_ofInt_eq_self hn hlo hhi

/-- `wrap_N(x)` is congruent to x modulo 2^n. -/
theorem toInt_wrap_sub_emod (n : Nat) (x : Int) : ((wrap n x).toInt - x) % 2 ^ n = 0 := by
  have h : (x.bmod (2 ^ n) - x) % ((2 ^ n : Nat) : Int) = 0 := by
    rw [Int.sub_emod, Int.bmod_emod, ← Int.sub_emod, Int.sub_self, Int.zero_emod]
  rw [wrap, BitVec.toInt_ofInt]
  exact_mod_cast h

/-- Clamping to a nonempty range is the lattice clamp. -/
theorem clamp_eq_max_min {lo hi : Int} (h : lo ≤ hi) (x : Int) : clamp lo hi x = max lo (min hi x) := by
  unfold clamp
  split_ifs <;> omega

/-- `sat_sN(x)` is x clamped to the signed range of n bits. -/
theorem toInt_satS {n : Nat} (hn : 0 < n) (x : Int) :
    (satS n x).toInt = max (-(2 ^ (n - 1))) (min (2 ^ (n - 1) - 1) x) := by
  have hpos : (0 : Int) < 2 ^ (n - 1) := by positivity
  have hc := clamp_eq_max_min (show -(2 ^ (n - 1)) ≤ (2 ^ (n - 1) - 1 : Int) by omega) x
  rw [satS, hc]
  exact toInt_wrap hn (by omega) (by omega)

/-- The default rounding is off by at most half of 2^k, and by exactly half only at an even result (R16). -/
theorem rnd_nearest_even (x : Int) (k : Nat) :
    2 * |2 ^ k * rnd x k - x| ≤ 2 ^ k ∧ (2 * |2 ^ k * rnd x k - x| = 2 ^ k → rnd x k % 2 = 0) := by
  have hpos : (0 : Int) < 2 ^ k := by positivity
  have hdiv : 2 ^ k * (x / 2 ^ k) + x % 2 ^ k = x := Int.mul_ediv_add_emod x (2 ^ k)
  have hr0 : 0 ≤ x % 2 ^ k := Int.emod_nonneg x hpos.ne'
  have hr1 : x % 2 ^ k < 2 ^ k := Int.emod_lt_of_pos x hpos
  unfold rnd
  dsimp only
  split_ifs with hup
  · -- rounded up: the error is what the remainder lacks of 2^k
    have herr : 2 ^ k * (x / 2 ^ k + 1) - x = 2 ^ k - x % 2 ^ k := by rw [mul_add, mul_one]; omega
    rw [herr, abs_of_nonneg (by omega)]
    omega
  · -- rounded down: the error is the remainder
    have herr : 2 ^ k * (x / 2 ^ k) - x = -(x % 2 ^ k) := by omega
    rw [herr, abs_neg, abs_of_nonneg hr0]
    omega

/-- The scaling shift is the floor of x / 2^k (R17). -/
theorem shrInt_floor (x : Int) (k : Nat) : 2 ^ k * shrInt x k ≤ x ∧ x < 2 ^ k * (shrInt x k + 1) := by
  have hpos : (0 : Int) < 2 ^ k := by positivity
  refine ⟨Int.mul_ediv_self_le hpos.ne', ?_⟩
  rw [mul_comm]
  exact Int.lt_ediv_add_one_mul_self x hpos

/-! ### Products -/

/-- A signed by an unsigned word, as UML2 multiplies (43_mul_fixed.md R248): 64 bits hold every product. -/
theorem toInt_wrap_signed_mul_unsigned (t s : Word) : (wrap 64 (t.toInt * s.toNat)).toInt = t.toInt * s.toNat := by
  have hs : s.toNat < 2 ^ 32 := s.isLt
  have hlo : -2 ^ 31 * (s.toNat : Int) ≤ t.toInt * s.toNat :=
    mul_le_mul_of_nonneg_right (BitVec.le_toInt t) (Int.natCast_nonneg _)
  have hhi : t.toInt * s.toNat ≤ 2 ^ 31 * (s.toNat : Int) :=
    mul_le_mul_of_nonneg_right BitVec.toInt_lt.le (Int.natCast_nonneg _)
  exact toInt_wrap (by decide) (by omega) (by omega)

/-! ### Operand forms of a whole instruction -/

/-- An instruction with even `.Q` operands whose only write is a 128-bit register. -/
theorem yieldsQ_of_needQuad {x : Instr} {σ : State} {ns : List Reg} {rd : Reg} {v : Quad} {P : Quad → Prop}
    (hx : exec x σ = solo (needQuad ns (.ok [.q rd v])) σ) (hns : ns.all quadOk = true) (hv : P v) :
    YieldsQ x σ rd P :=
  yieldsQ_of (by rw [hx, needQuad_ok hns]; rfl) hv

/-- Scaling by 3 is refused where the instruction does not allow it, whether the scaling is forced or asked for at the
pc (00_scope.md R17; 46_alu_packed.md R340, R364). -/
theorem withScale_three {σ : State} {forced : Bool} {f : Nat → Effect} (h3 : σ.me.scale = 3)
    (hs : (forced || scaledHere σ) = true) : withScale σ forced false f = .error .scaleThree := by
  simp [withScale, hs, h3]

/-- The `.Q` operands of an instruction that scales its lane results (46_alu_packed.md R340). -/
def scaledQuads : Instr → List Reg
  | .a8 rt rs rd | .s8 rt rs rd | .ms8 rt rs rd | .all4 rt rs rd | .sga8 rt rs rd | .a8s rt rs rd | .s8s rt rs rd
  | .axj4 rt rs rd | .sxj4 rt rs rd => [rt, rs, rd]
  | .al4 _ rs rd => [rs, rd]
  | .a24 rs _ => [rs]
  | .asx2 _ _ rd | .asxs2 _ _ rd | .bf4 _ _ rd | .bif4 _ _ rd => [rd]
  | _ => []

/-- A well-formed instruction has even `.Q` operands (10_state.md R26). -/
theorem scaledQuads_even {x : Instr} {sel : SlotField} (h : x.wf sel = true) : (scaledQuads x).all quadOk = true := by
  unfold scaledQuads
  split
  case h_16 => rfl
  all_goals simpa [Instr.wf, Instr.check, IllFormed.unless, and_assoc] using h

/-- A well-formed instruction of the scaled form refuses the shift 3. -/
theorem exec_refuses_scaleThree {x : Instr} {σ : State} {forced : Bool} {f : Nat → Effect}
    (hx : exec x σ = solo (fx x σ) σ) (hfx : fx x σ = needQuad (scaledQuads x) (withScale σ forced false f))
    (hwf : x.wf σ.cfg.macNField = true) (h3 : σ.me.scale = 3) (hs : (forced || scaledHere σ) = true) :
    exec x σ = .refused .scaleThree := by
  rw [hx, hfx, needQuad_ok (scaledQuads_even hwf), withScale_three h3 hs]
  rfl

/-- The scaling modifier stands at the pc. -/
theorem scaledHere_of_mem {σ : State} (h : σ.me.pc ∈ σ.me.scaledAt) : scaledHere σ = true :=
  List.contains_iff_mem.mpr h

end Sys2Proof.Machine
end

section
/-! SUPPORT. The statements of 00_scope.md: mixed and fractional products, the refused scaling shift, lane arithmetic. -/

namespace Sys2Proof.Machine

/-- Settles O19, by the integer reading of each primitive. -/
theorem laneArithmetic : Obligations.LaneArithmetic :=
  ⟨fun n x hn => ⟨toInt_satS hn x, toInt_wrap_sub_emod n x⟩, fun x k _ => rnd_nearest_even x k, shrInt_floor⟩

/-- Settles O10: UML2's products fit 64 bits; the parts of MF8 and MF4 are `fmul16` of the parts of T and S. -/
theorem mixedAndFractionalProducts : Obligations.MixedAndFractionalProducts := by
  intro σ rt rs rd
  refine ⟨⟨rfl, rfl⟩, ⟨rfl, rfl⟩, ?uml2, ?mf8, ⟨rfl, rfl⟩, ?mf4⟩
  case uml2 =>
    intro hd
    refine yieldsQ_of_needQuad rfl (by simpa using hd) ⟨?_, ?_⟩
    · rw [two64, extract_high]
      exact toInt_wrap_signed_mul_unsigned _ _
    · rw [two64, extract_low]
      exact toInt_wrap_signed_mul_unsigned _ _
  case mf8 =>
    intro hq
    exact yieldsQ_of_needQuad rfl (by simpa using hq) fun i hi => hp_map8h _ i hi
  case mf4 =>
    exact yieldsD_of rfl fun i hi => hp_map4h _ i hi

/-- Settles O18, by the refusal of each scaled form; well-formedness gives the even `.Q` operands. -/
theorem scaleThreeRefused : Obligations.ScaleThreeRefused := by
  intro σ x h3 hwf
  refine ⟨fun rt rs rd hx => ?forced, fun rt rs rd hpc hx => ?own⟩
  case forced =>
    simp only [List.mem_cons, List.not_mem_nil, or_false] at hx
    rcases hx with rfl | rfl
    all_goals exact exec_refuses_scaleThree rfl rfl hwf h3 (Bool.true_or _)
  case own =>
    have hs : (false || scaledHere σ) = true := scaledHere_of_mem hpc
    simp only [List.mem_cons, List.not_mem_nil, or_false] at hx
    rcases hx with rfl | rfl | rfl | rfl | rfl | rfl | rfl | rfl | rfl | rfl | rfl | rfl | rfl | rfl | rfl | rfl |
      rfl | rfl | rfl | rfl | rfl
    all_goals exact exec_refuses_scaleThree rfl rfl hwf h3 hs

end Sys2Proof.Machine
end

section
/-! SUPPORT. What the parts of an instruction write: no part gives IRQR or ARBR a reserved bit (10_state.md R69). One
lemma per operand form; the instructions stand by their form. -/

namespace Sys2Proof.Machine

/-! ### Effects whose writes are all tame -/

/-- Every write of an effect gives IRQR and ARBR no reserved bit; a refusal writes nothing. -/
def Effect.Tame (e : Effect) : Prop := ∀ ws, e = .ok ws → ∀ w ∈ ws, w.Tame

/-- A write that is not of a control register. -/
def Write.notCtl : Write → Bool
  | .ctl _ _ => false
  | _ => true

theorem Write.tame_of_notCtl {w : Write} (h : w.notCtl = true) : w.Tame := by
  cases w
  case ctl => cases h
  all_goals trivial

theorem Effect.tame_error (r : Refusal) : Effect.Tame (.error r) := fun _ h => by cases h

theorem Effect.tame_ok {ws : List Write} (h : ∀ w ∈ ws, w.Tame) : Effect.Tame (.ok ws) := by
  rintro _ ⟨rfl⟩
  exact h

theorem Effect.tame_data {ws : List Write} (h : ws.all Write.notCtl = true) : Effect.Tame (.ok ws) :=
  Effect.tame_ok fun w hw => Write.tame_of_notCtl (List.all_eq_true.mp h w hw)

theorem Effect.Tame.ite {p : Prop} [Decidable p] {e e' : Effect} (h : e.Tame) (h' : e'.Tame) :
    Effect.Tame (if p then e else e') := by
  split
  · exact h
  · exact h'

theorem Effect.Tame.needQuad {ns : List Reg} {e : Effect} (h : e.Tame) : (needQuad ns e).Tame := by
  unfold Machine.needQuad
  split
  · exact h
  · exact Effect.tame_error _

theorem Effect.Tame.withAcc {σ : State} {allowed : List Nat} {t s d : BitVec 5} {f : BitVec 3 → Effect}
    (h : ∀ n, (f n).Tame) : (withAcc σ allowed t s d f).Tame := by
  unfold Machine.withAcc
  dsimp only
  split
  · exact h _
  · exact Effect.tame_error _

theorem Effect.Tame.withScale {σ : State} {forced allowThree : Bool} {f : Nat → Effect}
    (h : ∀ k, (f k).Tame) : (withScale σ forced allowThree f).Tame := by
  unfold Machine.withScale
  generalize (if forced || scaledHere σ then σ.me.scale.toNat else 0) = k
  dsimp only
  split
  · exact Effect.tame_error _
  · exact h _

theorem Effect.Tame.withAmount {limit : Nat} {a : Half} {f : Nat → Effect}
    (h : ∀ k, (f k).Tame) : (withAmount limit a f).Tame := by
  unfold Machine.withAmount
  split
  · exact h _
  · exact Effect.tame_error _

theorem Effect.Tame.withSelector {count : Nat} {m : Half} {f : Nat → Effect}
    (h : ∀ k, (f k).Tame) : (withSelector count m f).Tame := by
  unfold Machine.withSelector
  split
  · split
    · exact h _
    · exact Effect.tame_error _
  · exact Effect.tame_error _

/-! ### Moves -/

theorem readMarks_notCtl (σ : State) (w : Half) (m : Nat) : (readMarks σ w m).all Write.notCtl = true := by
  unfold readMarks
  rw [List.all_append]
  split <;> split <;> rfl

theorem loadInto_notCtl (σ : State) (port : Nat) (n : Reg) (u : Bool) (w : Half) :
    (loadInto σ port n u w).all Write.notCtl = true := by
  unfold loadInto
  rw [List.all_append, readMarks_notCtl]
  split <;> rfl

theorem storeFrom_notCtl (σ : State) (n : Reg) (u : Bool) (w : Half) :
    (storeFrom σ n u w).all Write.notCtl = true := by
  unfold storeFrom
  split <;> rfl

/-- An access through a pointer is tame when its transfer writes no control register and the pointer is neither IRQR
nor ARBR. -/
theorem throughPointer_tame {σ : State} {rc : CReg} {p : Word} {act : Action} {m : Nat} {offset : Half}
    {transfer : Half → List Write} (hrc : ∀ v, Write.Tame (.ctl rc v))
    (ht : ∀ w, (transfer w).all Write.notCtl = true) : (throughPointer σ rc p act m offset transfer).Tame := by
  unfold throughPointer
  split
  · exact Effect.tame_error _
  split
  · exact Effect.tame_error _
  refine Effect.tame_ok fun w hw => ?_
  rcases List.mem_append.mp hw with hw | hw
  · exact Write.tame_of_notCtl (List.all_eq_true.mp (ht _) w hw)
  · split at hw
    · cases hw
    · rw [List.mem_singleton.mp hw]
      exact hrc _

theorem moveY_tame (σ : State) (aT : BitVec 2) (u : Bool) : (moveY σ aT u).Tame := by
  unfold moveY
  dsimp only
  split
  · exact Effect.tame_error _
  · exact throughPointer_tame (fun _ => trivial) (loadInto_notCtl _ _ _ _)

theorem moveX_tame (σ : State) (r : BitVec 4) (u : Bool) (mode a : BitVec 3) (de : Bool) :
    (moveX σ r u mode a de).Tame := by
  refine throughPointer_tame (fun _ => trivial) fun w => ?_
  split
  · exact storeFrom_notCtl _ _ _ _
  · exact loadInto_notCtl _ _ _ _ _

/-- A value that a control register may take has no reserved bit of IRQR or ARBR (10_state.md R69). -/
theorem tame_of_ctlRefusal {k : Core} {rc : CReg} {v : Word} (h : ctlRefusal k rc v = none) :
    Write.Tame (.ctl rc v) := by
  cases rc
  case irqr => simpa [ctlRefusal, Write.Tame] using h
  case arbr => simpa [ctlRefusal, Write.Tame] using h
  all_goals trivial

theorem xAccess_tame {σ : State} {k : BitVec 5} {b : Bool} {ws : List Write} (h : ws.all Write.notCtl = true) :
    (xAccess σ k b ws).Tame := by
  unfold xAccess
  split
  · exact Effect.tame_error _
  split
  · exact Effect.tame_data rfl
  · exact Effect.tame_data h

theorem moveFromRc_tame (σ : State) (rc : CReg) (w : Width) (rr : Reg) : (moveFromRc σ rc w rr).Tame := by
  unfold moveFromRc
  split
  · exact xAccess_tame rfl
  · split <;> exact Effect.tame_data rfl
  · exact Effect.tame_data rfl
  · split <;> exact Effect.tame_data rfl

theorem moveToRc_tame (σ : State) (rc : CReg) (w : Width) (rr : Reg) : (moveToRc σ rc w rr).Tame := by
  have pointer {c : CReg} {v : Word} (h : Write.Tame (.ctl c v)) : Effect.Tame (.ok [.ctl c v]) :=
    Effect.tame_ok fun w hw => List.mem_singleton.mp hw ▸ h
  unfold moveToRc
  split
  · exact xAccess_tame rfl
  · split <;> exact Effect.tame_data rfl
  · split <;> exact pointer trivial
  · split <;> exact pointer trivial
  · exact Effect.tame_data rfl
  · split
    · exact Effect.tame_data rfl
    · exact Effect.tame_error _
  · dsimp only
    split
    · exact Effect.tame_error _
    · rename_i h
      exact pointer (tame_of_ctlRefusal h)

theorem moveCtl_tame (σ : State) (rc : CReg) (w : Width) (toRc : Bool) (rr : Reg) :
    (moveCtl σ rc w toRc rr).Tame :=
  .ite (Effect.tame_error _) <| .ite (Effect.tame_error _) <| .ite (Effect.tame_error _) <|
    .ite (moveToRc_tame σ rc w rr) (moveFromRc_tame σ rc w rr)

theorem move9d_tame (σ : State) (rr : Reg) (rc : CReg) (l de : Bool) : (move9d σ rr rc l de).Tame := by
  unfold move9d
  split
  · exact Effect.tame_error _
  split
  · exact Effect.tame_error _
  · exact moveCtl_tame _ _ _ _ _

/-! ### Every part of an instruction -/

theorem fxClrac_tame (rt : Reg) (σ : State) : (fxClrac rt σ).Tame := by
  refine Effect.tame_ok fun w hw => ?_
  obtain ⟨n, -, hn⟩ := List.mem_filterMap.mp hw
  split at hn
  · rw [← Option.some.inj hn]
    trivial
  · cases hn

theorem fxAsrde_tame (rt rs rd : Reg) (σ : State) : (fxAsrde rt rs rd σ).Tame := by
  refine Effect.Tame.withAmount fun a => Effect.tame_data ?_
  split <;> rfl

theorem fxMove9bR_tame (rs rd : Reg) (l : Bool) (σ : State) : (fxMove9bR rs rd l σ).Tame := by
  unfold fxMove9bR
  split
  · exact .needQuad (Effect.tame_data rfl)
  · exact Effect.tame_data rfl

theorem fxRti_tame (cc : BitVec 4) (σ : State) : (fxRti cc σ).Tame := by
  unfold fxRti
  split
  · exact Effect.tame_data rfl
  · exact Effect.tame_error _

/-- The writes of every part are tame: a compute operation writes the register file, the accumulators and CCR alone, a
move no reserved bit. The cases stand by the operand form of the instruction. -/
theorem fx_tame (x : Instr) (σ : State) : (fx x σ).Tame := by
  cases x
  case move9aX => exact moveX_tame _ _ _ _ _ _
  case move9aY | move9bY => exact moveY_tame _ _ _
  case move9bR => exact fxMove9bR_tame _ _ _ _
  case move9dRC => exact move9d_tame _ _ _ _ _
  case rti => exact fxRti_tame _ _
  case clrac => exact fxClrac_tame _ _
  case asrde => exact fxAsrde_tame _ _ _ _
  case asx2 | asxs2 | bf4 | bif4 | a81 | a42 | a24 | al4 | a8 | s8 | sga8 | a8s | ms8 | s8s | all4 | axj4 | sxj4 =>
    exact .needQuad (.withScale fun _ => Effect.tame_data rfl)
  case asxs | a4 | s4 | sga4 | ms2 | ms4 | all2 | al2 =>
    dsimp only [fx, fxAsxs, fxA4, fxS4, fxSga4, fxMs2, fxMs4, fxAll2, fxAl2]
    exact .withScale fun _ => Effect.tame_data rfl
  case mac81 | macxb4 | mac42 | mac24 =>
    exact .needQuad (.withAcc fun _ => Effect.tame_data rfl)
  case macx | macx2 | macxc | macxc2 | mac41 | macl2 | mac22 | mac21 | mac14 | mac12 | mac11 | acsg4 | acsg2 | acsg1 =>
    dsimp only [fx, fxMacx, fxMacx2, fxMacxc, fxMacxc2, fxMac41, fxMacl2, fxMac22, fxMac21, fxMac14, fxMac12, fxMac11,
      fxAcsg4, fxAcsg2, fxAcsg1]
    exact .withAcc fun _ => Effect.tame_data rfl
  case aslxl | lsld | asld | asrxl | lsrd | btstd | asrd =>
    dsimp only [fx, fxAslxl, fxLsld, fxAsld, fxAsrxl, fxLsrd, fxBtstd, fxAsrd]
    exact .withAmount fun _ => Effect.tame_data rfl
  case lslxl | lsrxl =>
    dsimp only [fx, fxLslxl, fxLsrxl]
    exact .withAmount fun _ => .withAmount fun _ => Effect.tame_data rfl
  case ldac | ldacd | stac | stacd =>
    dsimp only [fx, fxLdac, fxLdacd, fxStac, fxStacd]
    exact .withSelector fun _ => Effect.tame_data rfl
  case fasx | fasxs | ml2 | uml2 | m4 | trs0 | trs0B | trs4 | trs4B | trs5 | trs5B | trs6 | trs6B | trs7 | trs7B |
      trs8 | trs8B | trs11 | trs11B | trs12 | trs12B | trs13 | trs13B | trs15 | trs15B | trs16 | trs16B | trs17 |
      trs17B | trs19 | trs19B | allft41 | allft22 | max8 | min8 | maxl4 | minl4 | acsg8 | mfa81 | mfa42 | mfa24 |
      mac18 | ra8 | cmpn8 | cmpz8 | cmpnl4 | cmpzl4 | mf8 =>
    exact .needQuad (Effect.tame_data rfl)
  all_goals exact Effect.tame_data rfl

end Sys2Proof.Machine
end

section
/-! SUPPORT. The invariant of Safety.lean through every step: the updates of a core, an instruction, a step of a core,
far writes, the bus, the actions of the environment. -/

namespace Sys2Proof.Machine

/-! ### Outcomes that keep the invariant -/

/-- The next state of an outcome, when there is one, has the invariant. -/
def NextInv (o : Host.Outcome State Fault Refusal) : Prop := ∀ τ, o = .next τ → τ.Inv

theorem nextInv_next {σ : State} (h : σ.Inv) : NextInv (.next σ) := by
  rintro _ ⟨rfl⟩
  exact h

theorem nextInv_refused (r : Refusal) : NextInv (.refused r) := fun _ h => by cases h

theorem nextInv_fault (r : Fault) : NextInv (.fault r) := fun _ h => by cases h

theorem NextInv.ite {p : Prop} [Decidable p] {o o' : Host.Outcome State Fault Refusal} (h : NextInv o)
    (h' : NextInv o') : NextInv (if p then o else o') := by
  split
  · exact h
  · exact h'

/-! ### One core: updates that keep its invariant -/

section
variable {cfg : Config} {c : CoreId} {k : Core}

/-- A defined bit of DCSR other than WAIT takes any value. -/
theorem Core.Inv.setDcsrBit (h : k.Inv cfg c) {j : Nat} (b : Bool) (hj : dcsrDefined.getLsbD j = true) (h4 : 4 ≠ j) :
    Core.Inv cfg c { k with dcsr := setBit k.dcsr j b } := by
  obtain ⟨hd, hi, ha, hb, hw, hrest⟩ := h
  refine ⟨within_setBit b hd hj, hi, ha, hb, Eq.trans ?_ hw, hrest⟩
  simp only [Core.wait, getLsbD_setBit, h4, false_and, if_false]

/-- WAIT and the held access change together (10_state.md R42). -/
theorem Core.Inv.setHeld (h : k.Inv cfg c) (x : Option Insn) :
    Core.Inv cfg c { k with dcsr := setBit k.dcsr 4 x.isSome, held := x } := by
  obtain ⟨hd, hi, ha, hb, -, hrest⟩ := h
  have hwait : (setBit k.dcsr 4 x.isSome).getLsbD 4 = x.isSome := (getLsbD_setBit _ _ _ _).trans (if_pos (by decide))
  exact ⟨within_setBit _ hd (by decide), hi, ha, hb, hwait, hrest⟩

theorem Core.Inv.withIrqr (h : k.Inv cfg c) {v : Word} (hv : within irqrDefined v = true) :
    Core.Inv cfg c { k with irqr := v } := by
  obtain ⟨hd, -, hrest⟩ := h
  exact ⟨hd, hv, hrest⟩

theorem Core.Inv.withDbDcsr (h : k.Inv cfg c) {v : Half} (hv : within dbDcsrDefined v = true) :
    Core.Inv cfg c { k with dbDcsr := v } := by
  obtain ⟨hd, hi, ha, -, hrest⟩ := h
  exact ⟨hd, hi, ha, hv, hrest⟩

theorem Core.Inv.withHist (h : k.Inv cfg c) {l : List Trace} (hl : l.length ≤ 3) :
    Core.Inv cfg c { k with hist := l } := by
  obtain ⟨hd, hi, ha, hb, hw, hs, -, hq⟩ := h
  exact ⟨hd, hi, ha, hb, hw, hs, hl, hq⟩

theorem Core.Inv.withFarq (h : k.Inv cfg c) {q : List FarWrite} (hq : ∀ e ∈ q, isFar c e.addr = true) :
    Core.Inv cfg c { k with farq := q } := by
  obtain ⟨hd, hi, ha, hb, hw, hs, hl, -⟩ := h
  exact ⟨hd, hi, ha, hb, hw, hs, hl, hq⟩

theorem Core.Inv.far (h : k.Inv cfg c) : ∀ e ∈ k.farq, isFar c e.addr = true := by
  obtain ⟨-, -, -, -, -, -, -, hq⟩ := h
  exact hq

/-- Clearing a bit keeps a value within its mask. -/
theorem within_clearBit {n : Nat} {mask v : BitVec n} (j : Nat) (h : within mask v = true) :
    within mask (setBit v j false) = true := by
  rw [within_iff] at *
  intro i hi
  rw [getLsbD_setBit] at hi
  split_ifs at hi
  exact h i hi

theorem Core.Inv.startRun (h : k.Inv cfg c) : k.startRun.Inv cfg c :=
  (h.setDcsrBit true (by decide : dcsrDefined.getLsbD 14 = true) (by decide)).congr rfl rfl rfl rfl rfl rfl rfl rfl

/-- The jump to the handler pushes only while the stack has room (41_control_and_changed_results.md R220). -/
theorem Core.Inv.jsrIvar (h : k.Inv cfg c) : (k.jsrIvar cfg.stackDepth).Inv cfg c := by
  unfold Core.jsrIvar
  split
  · rename_i hroom
    obtain ⟨hd, hi, ha, hb, hw, -, hl, hq⟩ := h
    refine ⟨hd, hi, ha, hb, hw, hroom, hl, fun e he => ?_⟩
    obtain ⟨e', he', rfl⟩ := List.mem_map.mp he
    exact hq e' he'
  · exact h.stackFail

theorem Core.Inv.sarStop (h : k.Inv cfg c) : k.sarStop.Inv cfg c := by
  unfold Core.sarStop
  split
  · have h2 := h.setDcsrBit true (by decide : dcsrDefined.getLsbD 2 = true) (by decide)
    exact (h2.setDcsrBit false (by decide : dcsrDefined.getLsbD 14 = true) (by decide)).congr
      rfl rfl rfl rfl rfl rfl rfl rfl
  · exact h

theorem Core.Inv.dbDcsr_dbSarStop (h : k.Inv cfg c) : within dbDcsrDefined k.dbSarStop.dbDcsr = true := by
  obtain ⟨-, -, -, hb, -⟩ := h
  unfold Core.dbSarStop
  split
  · exact within_clearBit 14 (within_setBit true hb (by decide))
  · exact hb

end

/-! ### An instruction -/

theorem gather_tame {σ : State} : ∀ {xs : List Instr} {g : Gathered}, gather σ xs = .ok g → ∀ w ∈ g.writes, w.Tame
  | [], g, h => by
    cases h
    intro w hw
    cases hw
  | x :: rest, g, h => by
    unfold gather at h
    split at h
    · cases h
    rename_i ws hx
    split at h
    · cases h
    rename_i g' hrest
    cases h
    intro w hw
    rcases List.mem_append.mp hw with hw | hw
    · exact fx_tame x σ ws hx w hw
    · exact gather_tame hrest w hw

theorem stmtEffect_tame (st : Stmt) (wide : Bool) (σ : State) : (stmtEffect st wide σ).Tame := by
  cases st
  case moveRf w src dst =>
    cases w
    case w128 => exact .needQuad (Effect.tame_data rfl)
    all_goals exact Effect.tame_data rfl
  case moveRc => exact .ite (moveCtl_tame _ _ _ _ _) (Effect.tame_error _)
  case moveImmSr v => exact Effect.tame_ok fun w hw => List.mem_singleton.mp hw ▸ trivial
  case loadT =>
    refine .ite (Effect.tame_error _) (throughPointer_tame (fun _ => trivial) fun w => ?_)
    rw [List.all_append, readMarks_notCtl]
    rfl
  case jumpAn => exact .ite (Effect.tame_error _) (Effect.tame_data rfl)
  case doLoop => exact .ite (Effect.tame_error _) (Effect.tame_error _)
  case other => exact Effect.tame_error _
  all_goals exact Effect.tame_data rfl

/-- A held instruction changes WAIT and the held access alone (20_memory.md R117). -/
theorem State.Inv.hold {σ : State} (h : σ.Inv) (x : Insn) : (σ.hold x).Inv :=
  h.onMe ((h.core σ.turn).setHeld (some x))

theorem State.Inv.retire {σ : State} (h : σ.Inv) (pc : Half) (t : Trace) : (σ.retire pc t).Inv := by
  refine h.onMe ?_
  have hheld := (h.core σ.turn).setHeld none
  exact (hheld.withHist (List.length_take_le 3 (t :: σ.me.hist))).congr rfl rfl rfl rfl rfl rfl rfl rfl

theorem runBundle_inv {σ : State} (h : σ.Inv) (b : Bundle) : NextInv (runBundle b σ) := by
  unfold runBundle
  refine .ite (nextInv_refused _) ?_
  split
  · exact nextInv_refused _
  rename_i g hg
  split
  · exact nextInv_refused _
  · exact .ite (nextInv_next (h.hold _)) (nextInv_next ((h.commitAll _ (gather_tame hg)).retire _ _))

theorem runStmt_inv {σ : State} (h : σ.Inv) (st : Stmt) (wide : Bool) : NextInv (runStmt st wide σ) := by
  unfold runStmt
  refine .ite (nextInv_refused _) ?_
  split
  · exact nextInv_refused _
  · rename_i ws hws
    exact .ite (nextInv_next (h.hold _))
      (nextInv_next ((h.commitAll ws (stmtEffect_tame st wide σ ws hws)).retire _ _))

theorem runInsn_inv {σ : State} (h : σ.Inv) (x : Insn) : NextInv (runInsn x σ) := by
  cases x with
  | bundle b => exact runBundle_inv h b
  | base st wide => exact runStmt_inv h st wide

theorem runNext_inv {σ : State} (h : σ.Inv) : NextInv (runNext σ) := by
  unfold runNext
  split
  · exact runInsn_inv h _
  · exact nextInv_refused _

/-! ### A step of a core -/

theorem takeInterrupt_inv {σ : State} (h : σ.Inv) : NextInv (takeInterrupt σ) := by
  unfold takeInterrupt
  refine .ite (nextInv_refused _) (nextInv_next ?_)
  have hrun := (h.core σ.turn).startRun
  suffices State.Inv (σ.onMe fun k =>
      { (if σ.cfg.irqrAutoclear then
            { k.startRun with irqr := setBit k.startRun.irqr (σ.pickPending k.startRun) false }
          else k.startRun : Core).jsrIvar σ.cfg.stackDepth with hist := [] }) from this
  refine h.onMe (Core.Inv.withHist (Core.Inv.jsrIvar ?_) (Nat.zero_le 3))
  split
  · obtain ⟨-, hirqr, -⟩ := h.core σ.turn
    exact hrun.withIrqr (within_clearBit _ hirqr)
  · exact hrun

theorem coreStep_inv {σ : State} (h : σ.Inv) (take : Bool) : NextInv (coreStep take σ) := by
  unfold coreStep
  refine .ite (nextInv_next h) (.ite (nextInv_refused _) ?_)
  split
  · exact runInsn_inv h _
  refine .ite (.ite (nextInv_refused _) (nextInv_next (h.onMe ?_))) <|
    .ite (takeInterrupt_inv h) <| .ite (runNext_inv h) (nextInv_next h)
  have hme := h.core σ.turn
  exact (hme.sarStop.withDbDcsr hme.dbDcsr_dbSarStop).congr rfl rfl rfl rfl rfl rfl rfl rfl

/-! ### Far writes -/

theorem State.Inv.setXy {σ : State} (h : σ.Inv) (w : Half) (v : Word) : (σ.setXy w v).Inv :=
  h.withMem (writeWordAt_wf _ _ _ h.1)

theorem State.Inv.landAll : ∀ (l : List FarWrite) {σ : State}, σ.Inv → (landAll l σ).Inv
  | [], _, h => h
  | e :: rest, _, h => State.Inv.landAll rest (h.setXy e.addr e.val)

theorem State.Inv.landEvery {σ : State} (h : σ.Inv) (c : CoreId) : (σ.landEvery c).Inv := by
  have hl := State.Inv.landAll (σ.core c).farq h
  exact hl.onCore c ((hl.core c).withFarq fun e he => by cases he)

theorem State.Inv.landFirst {σ : State} (h : σ.Inv) (c : CoreId) : (σ.landFirst c).Inv := by
  unfold State.landFirst
  split
  · exact h
  · rename_i e rest hq
    have hxy := h.setXy e.addr e.val
    refine hxy.onCore c ((hxy.core c).withFarq fun e' he' => (h.core c).far e' ?_)
    rw [hq]
    exact List.mem_cons_of_mem e he'

/-! ### The bus -/

theorem State.Inv.setPram {σ : State} (h : σ.Inv) (c : CoreId) (p : Nat) (v : Word) : (σ.setPram c p v).Inv := by
  have hm := h.withMem (writeWordAt_wf σ.mem (pramAddr c p) v h.1)
  exact hm.onCore c ((hm.core c).congr rfl rfl rfl rfl rfl rfl rfl rfl)

/-- A read of a core's register keeps the invariant. -/
theorem State.Inv.readWindow {σ : State} (h : σ.Inv) (c : CoreId) (r : Window) : (readWindow σ c r).Inv := by
  unfold Machine.readWindow
  cases r
  case ctl rc =>
    cases rc
    case ccr => exact h.onCore c ((h.core c).congr rfl rfl rfl rfl rfl rfl rfl rfl)
    all_goals exact h
  case cntRun | dbPc => exact h.onCore c ((h.core c).congr rfl rfl rfl rfl rfl rfl rfl rfl)
  all_goals exact h

theorem busRead_inv {σ : State} (h : σ.Inv) (addr : Word) : NextInv (busRead addr σ) := by
  unfold busRead
  refine .ite (nextInv_refused _) ?_
  split
  · exact nextInv_refused _
  rename_i t _
  refine .ite (nextInv_refused _) ?_
  cases t
  case reg c r _ => exact nextInv_next (h.readWindow c r)
  case xbuf => exact .ite (nextInv_next h) (nextInv_next h)
  all_goals exact nextInv_next h

theorem writeWindow_inv {σ : State} (h : σ.Inv) (c : CoreId) (r : Window) (v : Word) :
    NextInv (writeWindow σ c r v) := by
  have keep {f : Core → Core} (hf : (f (σ.core c)).Inv σ.cfg c) : NextInv (.next (σ.onCore c f)) :=
    nextInv_next (h.onCore c hf)
  have hc := h.core c
  unfold writeWindow
  cases r
  case ctl rc =>
    cases rc
    case efr => exact nextInv_refused _
    case ccr => exact keep (hc.setCtl .ccr v trivial)
    all_goals
      dsimp only
      split
      · exact nextInv_refused _
      · rename_i hok
        exact keep (hc.setCtl _ v (tame_of_ctlRefusal hok))
  case dbDcsr =>
    refine .ite (keep ?_) (nextInv_refused _)
    exact (hc.withDbDcsr (within_and dbDcsrDefined _)).congr rfl rfl rfl rfl rfl rfl rfl rfl
  case cntRun | dbPc => exact nextInv_next h
  all_goals exact keep (hc.congr rfl rfl rfl rfl rfl rfl rfl rfl)

theorem writeCsr_inv {σ : State} (h : σ.Inv) (v : Word) : NextInv (writeCsr σ v) := by
  obtain ⟨hmem, h0, h1, -, hclk⟩ := h
  have hcsr : within 2#32 (v &&& 2) = true := within_and 2#32 v
  exact .ite (nextInv_refused _) <|
    .ite (nextInv_next ⟨hmem, h0.startRun, h1.startRun, hcsr, hclk⟩) (nextInv_next ⟨hmem, h0, h1, hcsr, hclk⟩)

theorem busWrite_inv {σ : State} (h : σ.Inv) (addr v : Word) : NextInv (busWrite addr v σ) := by
  unfold busWrite
  refine .ite (nextInv_refused _) ?_
  split
  · exact nextInv_refused _
  rename_i t _
  refine .ite (nextInv_refused _) ?_
  cases t
  case xyram w _ => exact nextInv_next (h.setXy w v)
  case pram c p _ => exact .ite (nextInv_next (h.setPram c _ v)) (nextInv_refused _)
  case reg c r _ => exact writeWindow_inv h c r v
  case csr => exact writeCsr_inv h v
  case xbuf => exact .ite (nextInv_next h) (nextInv_next h)
  all_goals exact nextInv_next h

theorem dmaRead_inv {σ : State} (h : σ.Inv) (addr : Word) : NextInv (dmaRead addr σ) := by
  unfold dmaRead
  refine .ite (nextInv_refused _) (.ite (nextInv_refused _) ?_)
  split
  · split
    · exact nextInv_next h
    · exact nextInv_fault _
    · exact nextInv_refused _
  · exact nextInv_fault _
  · exact nextInv_refused _

theorem dmaWrite_inv {σ : State} (h : σ.Inv) (addr : Word) (v : Dbl) : NextInv (dmaWrite addr v σ) := by
  unfold dmaWrite
  refine .ite (nextInv_refused _) (.ite (nextInv_refused _) ?_)
  split
  · rename_i σ1 hfirst
    exact busWrite_inv (busWrite_inv h _ _ σ1 hfirst) _ _
  · exact nextInv_fault _
  · exact nextInv_refused _

/-! ### One step of the cluster -/

/-- Every action keeps the invariant: an action of the environment too (60_exceptions.md R484). -/
theorem runEvent_inv {σ : State} (h : σ.Inv) (e : Event) : NextInv (runEvent e σ) := by
  cases e with
  | core c take => exact coreStep_inv (σ := { σ with turn := c }) h take
  | drain c =>
    refine nextInv_next ?_
    split
    · exact h.landFirst c
    · exact h
  | cpuRead addr => exact busRead_inv h addr
  | cpuWrite addr v => exact busWrite_inv h addr v
  | cpuNarrow addr => exact nextInv_refused _
  | dmaRead addr => exact dmaRead_inv h addr
  | dmaWrite addr v => exact dmaWrite_inv h addr v
  | dmaRequest c k =>
    have hk : irqrDefined.getLsbD k.toNat = true := by revert k; decide
    exact nextInv_next (h.raise c hk)
  | timer c =>
    refine nextInv_next ?_
    split
    · exact h.raise c (by decide)
    · exact h
  | clock en0 en1 =>
    obtain ⟨hmem, h0, h1, hcsr, -⟩ := h
    dsimp only [runEvent]
    split
    · exact nextInv_refused _
    · rename_i hclk
      exact nextInv_next ⟨hmem, h0, h1, hcsr, by simpa using hclk⟩

theorem State.Inv.nextTurn {σ : State} (h : σ.Inv) : σ.nextTurn.Inv := by
  unfold State.nextTurn
  split
  · exact h
  · exact h

theorem unscheduled_inv {σ : State} (h : σ.Inv) : NextInv (unscheduled σ) := by
  have hland : State.Inv (if σ.canLand σ.turn then σ.landEvery σ.turn else σ) := by
    split
    · exact h.landEvery σ.turn
    · exact h
  unfold unscheduled
  dsimp only
  split
  · rename_i σ' hstep
    exact nextInv_next (coreStep_inv hland true σ' hstep).nextTurn
  · exact nextInv_fault _
  · exact nextInv_refused _

/-- Settles O56: the scheduled action, or the unscheduled step of a core, keeps the invariant. -/
theorem stepKeepsInvariant : Obligations.StepKeepsInvariant := by
  intro σ τ h hstep
  unfold step stepOnce at hstep
  split at hstep
  · exact unscheduled_inv h τ hstep
  · rename_i e rest _
    exact runEvent_inv (σ := { σ with sched := rest }) h e τ hstep

end Sys2Proof.Machine
end

section
/-! SUPPORT. Refused operands: every part enforces the check of its operands (WellFormed.lean), each broken rule under its
own name. -/

namespace Sys2Proof.Machine

/-- A rule that an effect enforces: when the check names a broken rule, the effect is the refusal of that name. -/
def Effect.Enforces (why : Option IllFormed) (e : Effect) : Prop := ∀ r, why = some r → e = .error (refusalOf r)

theorem Effect.enforces_none (e : Effect) : Effect.Enforces none e := fun _ h => by cases h

/-- The refusal of one condition. -/
theorem Effect.enforces_unless {ok : Bool} {r : IllFormed} {e : Effect} (h : ok = false → e = .error (refusalOf r)) :
    Effect.Enforces (IllFormed.unless ok r) e := by
  intro r' hr
  cases ok
  case true => cases hr
  case false =>
    cases hr
    exact h rfl

/-- A first condition, then the rest. -/
theorem Effect.Enforces.or {ok : Bool} {r : IllFormed} {why : Option IllFormed} {e : Effect}
    (h : ok = false → e = .error (refusalOf r)) (hrest : ok = true → Effect.Enforces why e) :
    Effect.Enforces ((IllFormed.unless ok r).or why) e := by
  cases ok
  case true => exact hrest rfl
  case false =>
    intro r' hr
    cases hr
    exact h rfl

theorem enforces_quad_one (a : Reg) (e : Effect) :
    Effect.Enforces (IllFormed.unless (quadOk a) .oddQuad) (needQuad [a] e) :=
  Effect.enforces_unless fun h => needQuad_odd (by simp [h])

theorem enforces_quad_two (a b : Reg) (e : Effect) :
    Effect.Enforces (IllFormed.unless (quadOk a && quadOk b) .oddQuad) (needQuad [a, b] e) :=
  Effect.enforces_unless fun h => needQuad_odd (by simpa using h)

theorem enforces_quad_three (a b c : Reg) (e : Effect) :
    Effect.Enforces (IllFormed.unless (quadOk a && quadOk b && quadOk c) .oddQuad) (needQuad [a, b, c] e) :=
  Effect.enforces_unless fun h => needQuad_odd (by simpa [or_assoc] using h)

/-- The accumulator number must be one of the instruction's list (44_mac.md R275). -/
theorem enforces_withAcc (σ : State) (allowed : List Nat) (t s d : BitVec 5) (f : BitVec 3 → Effect) :
    Effect.Enforces (IllFormed.number allowed (accField σ.cfg.macNField t s d)) (withAcc σ allowed t s d f) :=
  Effect.enforces_unless fun h => if_neg (by simp [h])

/-- Two `.Q` operands are checked before what follows. -/
theorem Effect.Enforces.needQuad {a b : Reg} {why : Option IllFormed} {e : Effect} (h : Effect.Enforces why e) :
    Effect.Enforces ((IllFormed.unless (quadOk a && quadOk b) .oddQuad).or why) (needQuad [a, b] e) :=
  .or (fun hodd => needQuad_odd (by simpa using hodd)) fun heven => by
    rw [needQuad_ok (by simpa using heven)]
    exact h

theorem enforces_move9bR (σ : State) (rs rd : Reg) (l : Bool) (sel : SlotField) :
    Effect.Enforces ((Instr.move9bR rs rd l).check sel) (fxMove9bR rs rd l σ) := by
  cases l
  case false => exact Effect.enforces_none _
  case true => exact enforces_quad_two rs rd _

/-! The move of format 9d, refusal by refusal. -/

section
variable {σ : State} {rr : Reg} {rc : CReg} {l de : Bool} {w : Width} {n : BitVec 4}

theorem move9d_of_stackReg (hstack : stackReg rc = true) : move9d σ rr rc l de = .error .stackRegister :=
  if_pos hstack

theorem move9d_of_noWidth (hstack : stackReg rc = false) (hw : width9d rc l = none) :
    move9d σ rr rc l de = .error .widthBit := by
  simp only [move9d, hstack, hw, Bool.false_eq_true, if_false]

theorem move9d_of_width (hstack : stackReg rc = false) (hw : width9d rc l = some w) :
    move9d σ rr rc l de = moveCtl σ rc w (de == σ.cfg.deDir) rr := by
  simp only [move9d, hstack, hw, Bool.false_eq_true, if_false]

theorem moveCtl_of_noView {toRc : Bool} (hview : accViewOk n w = false) :
    moveCtl σ (.ac n) w toRc rr = .error .accumulatorView :=
  if_pos hview

theorem moveCtl_of_oddQuad {toRc : Bool} (hview : accViewOk n w = true) (hreg : regOk w rr = false) :
    moveCtl σ (.ac n) w toRc rr = .error .oddQuad :=
  (if_neg (by simpa using hview)).trans (if_pos hreg)

end

/-- A move of format 9d: first the register, then its width, then the accumulator's view and the even register
(40_moves.md R191, R194; 10_state.md R26, R29). -/
theorem enforces_move9d (σ : State) (rr : Reg) (rc : CReg) (l de : Bool) (sel : SlotField) :
    Effect.Enforces ((Instr.move9dRC rr rc l de).check sel) (move9d σ rr rc l de) := by
  cases hstack : stackReg rc
  case true =>
    rw [move9d_of_stackReg hstack]
    simp only [Instr.check, hstack, if_true]
    rintro _ ⟨rfl⟩
    rfl
  cases hw : width9d rc l
  case none =>
    rw [move9d_of_noWidth hstack hw]
    simp only [Instr.check, hstack, hw, Bool.false_eq_true, if_false]
    rintro _ ⟨rfl⟩
    rfl
  case some w =>
    rw [move9d_of_width hstack hw]
    simp only [Instr.check, hstack, hw, Bool.false_eq_true, if_false]
    cases rc
    case ac n =>
      exact .or (fun hview => moveCtl_of_noView hview) fun hview =>
        Effect.enforces_unless fun hreg => moveCtl_of_oddQuad hview hreg
    all_goals exact Effect.enforces_none _

/-- Every part enforces its own check. The cases stand by the operands that the instruction restricts. -/
theorem fx_enforces_check (x : Instr) (σ : State) : Effect.Enforces (x.check σ.cfg.macNField) (fx x σ) := by
  cases x
  case move9bR => exact enforces_move9bR _ _ _ _ _
  case move9dRC => exact enforces_move9d _ _ _ _ _ _
  case asx2 | asxs2 | bf4 | bif4 | a81 | a42 | a24 | fasx | fasxs | ml2 | uml2 | m4 | trs4 | trs4B | trs5 | trs5B |
      trs6 | trs6B | trs7 | trs7B | trs8 | trs8B | trs11 | trs11B | trs12 | trs12B | trs13 | trs13B | trs15 | trs15B |
      trs16 | trs16B | trs17 | trs17B | trs19 | trs19B | allft41 | allft22 | max8 | min8 | maxl4 | minl4 | acsg8 =>
    exact enforces_quad_one _ _
  case al4 | trs0 | trs0B | mfa81 | mfa42 | mfa24 | mac18 =>
    exact enforces_quad_two _ _ _
  case a8 | s8 | sga8 | a8s | ms8 | s8s | all4 | axj4 | sxj4 | ra8 | cmpn8 | cmpz8 | cmpnl4 | cmpzl4 | mf8 =>
    exact enforces_quad_three _ _ _ _
  case mac81 | macxb4 | mac42 | mac24 =>
    exact .needQuad (enforces_withAcc _ _ _ _ _ _)
  case macx | macx2 | macxc | macxc2 | mac41 | macl2 | mac22 | mac21 | mac14 | mac12 | mac11 | acsg4 | acsg2 | acsg1 =>
    dsimp only [Instr.check, fx, fxMacx, fxMacx2, fxMacxc, fxMacxc2, fxMac41, fxMacl2, fxMac22, fxMac21, fxMac14,
      fxMac12, fxMac11, fxAcsg4, fxAcsg2, fxAcsg1]
    exact enforces_withAcc _ _ _ _ _ _
  all_goals exact Effect.enforces_none _

/-- A part whose effect is a refusal is refused when it runs on its own, the move that may have to wait included. -/
theorem exec_refused_of_fx {x : Instr} {σ : State} {r : Refusal} (h : fx x σ = .error r) : exec x σ = .refused r := by
  have hsolo : solo (fx x σ) σ = .refused r := by rw [h]; rfl
  cases x
  case move9dRC rr rc l de =>
    have hmove : move9d σ rr rc l de = .error r := h
    simp only [exec, execMove9dRC, fxMove9dRC, hmove, soloOrHold]
  all_goals exact hsolo

/-- Settles O32: every part enforces its check, and its refusal is the outcome. -/
theorem illFormedRefused : Obligations.IllFormedRefused :=
  fun σ x e h => exec_refused_of_fx (fx_enforces_check x σ e h)

end Sys2Proof.Machine
end

section
/-! SUPPORT. The statements of 10_state.md on the register views, the flags shown to the CPU and the state after reset. -/

namespace Sys2Proof.Machine

/-! ### The four views of the register file -/

/-- Two adjacent fields of one width side by side are the field of twice the width. -/
theorem extract_halves {w : Nat} (x : BitVec w) (n : Nat) :
    x.extractLsb' n n ++ x.extractLsb' 0 n = x.extractLsb' 0 (n + n) := by
  apply BitVec.eq_of_getLsbD_eq
  intro i hi
  simp only [BitVec.getLsbD_append, BitVec.getLsbD_extractLsb', hi, decide_true, Bool.true_and, Nat.zero_add]
  split_ifs with hlow
  · simp [hlow]
  · rw [Nat.add_sub_cancel' (Nat.not_lt.mp hlow), decide_eq_true (by omega), Bool.true_and]

/-- Register n + 1 of an even n is odd and lies in the same row (10_state.md R22). -/
theorem rowOf_succ_of_even {n : Reg} (h : quadOk n = true) :
    oddReg n = false ∧ oddReg (n + 1) = true ∧ rowOf (n + 1) = rowOf n := by
  revert n
  decide

theorem Core.l_eq_h_append_h (k : Core) {n : Reg} (h : quadOk n = true) : k.l n = k.h (n + 1) ++ k.h n := by
  obtain ⟨heven, hodd, hrow⟩ := rowOf_succ_of_even h
  simp only [Core.l, Core.h, heven, hodd, hrow, if_true, Bool.false_eq_true, if_false]
  exact (extract_halves _ 16).symm

theorem Core.d_eq_l_append_l (k : Core) {n : Reg} (h : quadOk n = true) : k.d n = k.l (n + 1) ++ k.l n := by
  obtain ⟨heven, hodd, hrow⟩ := rowOf_succ_of_even h
  simp only [Core.d, Core.l, heven, hodd, hrow, if_true, Bool.false_eq_true, if_false]
  exact (extract_halves _ 32).symm

theorem Core.q_eq_d_append_d (k : Core) {n : Reg} (h : quadOk n = true) : k.q n = k.d (n + 1) ++ k.d n := by
  obtain ⟨heven, hodd, hrow⟩ := rowOf_succ_of_even h
  simp only [Core.q, Core.d, heven, hodd, hrow, if_true, Bool.false_eq_true, if_false]
  exact ((extract_halves _ 64).trans BitVec.extractLsb'_eq_self).symm

/-- Settles O52, view by view: reading back, and the units outside the view. -/
theorem registerViews : Obligations.RegisterViews := fun k n =>
  ⟨fun h => ⟨k.l_eq_h_append_h h, k.d_eq_l_append_l h, k.q_eq_d_append_d h⟩,
    fun v => ⟨k.h_setH_same n v, fun u => k.unit_setH n v u⟩,
    fun v => ⟨k.l_setL_same n v, fun u => k.unit_setL n v u⟩,
    fun v => ⟨k.d_setD_same n v, fun u => k.unit_setD n v u⟩,
    fun _ v => ⟨k.q_setQ_same n v, fun u => k.unit_setQ n v u⟩⟩

/-! ### The flags shown to the CPU -/

/-- QSTR_DSP bit by bit (10_state.md R65). -/
theorem State.getLsbD_qstr (σ : State) (j : Nat) :
    σ.qstr.getLsbD j =
      if j < 4 then σ.core0.dcsr.getLsbD j
      else if 8 ≤ j ∧ j < 12 then σ.core1.dcsr.getLsbD (j - 8)
      else decide (j = 28) && (σ.core0.wait && σ.core1.wait) := by
  unfold State.qstr
  simp only [BitVec.getLsbD_append, BitVec.getLsbD_extractLsb', BitVec.getLsbD_zero, BitVec.getLsbD_ofBool]
  simp only [Nat.sub_sub, Nat.zero_add, Nat.reduceAdd]
  by_cases h4 : j < 4
  · simp [h4]
  by_cases h12 : 8 ≤ j ∧ j < 12
  · have h8 : ¬j - 4 < 4 := by omega
    have hin : j - 8 < 4 := by omega
    simp [h4, h8, hin, h12]
  rw [if_neg h4, if_neg h4, if_neg h12]
  by_cases h28 : j = 28
  · subst h28
    rfl
  rw [decide_eq_false h28, Bool.false_and]
  split_ifs with h8 hin h16 hone
  · rfl
  · omega
  · rfl
  · omega
  · rfl

/-- The CPU is asked exactly when some shown flag is unmasked (60_exceptions.md R480). -/
theorem State.cpuRequest_iff (σ : State) :
    σ.cpuRequest = true ↔ ∃ j < 32, σ.qstr.getLsbD j = true ∧ σ.maskr.getLsbD j = true := by
  unfold State.cpuRequest
  constructor
  · intro h
    by_contra hnone
    push Not at hnone
    rw [bne_iff_ne] at h
    refine h (BitVec.eq_of_getLsbD_eq fun i hi => ?_)
    rw [BitVec.getLsbD_and, BitVec.ofNat_eq_ofNat, BitVec.getLsbD_zero, Bool.and_eq_false_imp]
    intro hq
    simpa using hnone i hi hq
  · rintro ⟨j, -, hq, hm⟩
    rw [bne_iff_ne]
    intro h0
    have hbit : (σ.qstr &&& σ.maskr).getLsbD j = true := by rw [BitVec.getLsbD_and, hq, hm]; rfl
    rw [h0, BitVec.ofNat_eq_ofNat, BitVec.getLsbD_zero] at hbit
    cases hbit

/-- Settles O55 from the bits of QSTR_DSP. -/
theorem flagsToCpu : Obligations.FlagsToCpu := by
  intro σ
  refine ⟨fun j hj => ⟨?_, ?_⟩, ?_, fun j _ hj => ?_, σ.cpuRequest_iff, rfl⟩
  · rw [σ.getLsbD_qstr, if_pos hj]
  · rw [σ.getLsbD_qstr, if_neg (by omega), if_pos (by omega), Nat.add_sub_cancel_left]
  · rw [σ.getLsbD_qstr]
    rfl
  · rw [σ.getLsbD_qstr, if_neg (by omega), if_neg (by omega), decide_eq_false (by omega), Bool.false_and]

/-! ### Reset -/

theorem within_zero {n : Nat} (mask : BitVec n) : within mask 0 = true := by
  simp [within]

/-- A core has the invariant after reset, whatever the configuration. -/
theorem Core.inv_reset (cfg : Config) (c : CoreId) : (Core.reset cfg c).Inv cfg c :=
  ⟨within_zero _, within_zero _, (by decide : within arbrDefined 0x0F01 = true), within_zero _,
    BitVec.getLsbD_zero, Nat.zero_le _, Nat.zero_le 3, fun _ he => by cases he⟩

/-- Settles O57: both cores, the empty memory and the clocks after reset. -/
theorem resetInvariant : Obligations.ResetInvariant :=
  ⟨reset_memory_wf, Core.inv_reset _ _, Core.inv_reset _ _, by decide, by decide⟩

/-- What the spec states of either core after reset (10_state.md R71). -/
theorem Core.reset_values (cfg : Config) (c : CoreId) :
    let k := Core.reset cfg c
    k.acc = Vector.replicate 16 0 ∧ k.ivar = 0x1F00 ∧ k.dcsr = 0 ∧ k.dd = false ∧ k.bd = false ∧ k.irqr = 0 ∧
      k.imaskr = 0 ∧ k.tmr = 0 ∧ k.arbr = 0x0F01 ∧ k.dbDcsr = 0 ∧ k.dbSars = Vector.replicate 8 0xFFFF ∧
      k.dbCntr = 0 ∧ k.cntRun = 0 ∧ k.inIsr = false ∧ k.pcstack = [] :=
  ⟨rfl, rfl, rfl, BitVec.getLsbD_zero, BitVec.getLsbD_zero, rfl, rfl, rfl, rfl, rfl, rfl, rfl, rfl, rfl, rfl⟩

/-- Settles O58: the values of either core, then those that differ between them and the cluster's. -/
theorem resetValues : Obligations.ResetValues := by
  refine ⟨fun c => ?_, rfl, rfl, rfl, rfl, rfl, rfl, rfl, rfl⟩
  cases c
  case dsp0 => exact Core.reset_values resetConfig .dsp0
  case dsp1 => exact Core.reset_values resetConfig .dsp1

end Sys2Proof.Machine
end

section
/-! SUPPORT. The statements of 20_memory.md on the address windows of XYRAM and PRAM and on the landing of far writes. -/

namespace Sys2Proof.Machine

/-! ### The windows are apart -/

/-- XYRAM lies in two windows of 128 KiB, one per segment (20_memory.md R92). -/
theorem xyAddr_window (w : Half) :
    (0x18400000 ≤ xyAddr w ∧ xyAddr w + 4 ≤ 0x18420000) ∨ (0x18800000 ≤ xyAddr w ∧ xyAddr w + 4 ≤ 0x18820000) := by
  have hw := w.isLt
  have hbit : w.getLsbD 15 = decide (0x8000 ≤ w.toNat) :=
    (BitVec.msb_eq_getLsbD_last w).symm.trans (BitVec.msb_eq_decide w)
  unfold xyAddr
  rw [hbit]
  simp only [decide_eq_true_eq]
  split_ifs <;> omega

/-- An XYRAM word and a PRAM word have no byte in common (20_memory.md R92, R94). -/
theorem xyAddr_pramAddr_apart (w : Half) (c : CoreId) {p : Nat} (hp : p < 0x2000) :
    xyAddr w + 4 ≤ pramAddr c p ∨ pramAddr c p + 4 ≤ xyAddr w := by
  have hw := xyAddr_window w
  cases c <;> simp only [pramAddr] <;> omega

/-- Different PRAM words, of one core or of the two, have no byte in common (20_memory.md R94). -/
theorem pramAddr_apart {c c' : CoreId} {p q : Nat} (hp : p < 0x2000) (hq : q < 0x2000) (h : ¬(c' = c ∧ q = p)) :
    pramAddr c' q + 4 ≤ pramAddr c p ∨ pramAddr c p + 4 ≤ pramAddr c' q := by
  by_cases hc : c' = c
  · have hne : q ≠ p := fun e => h ⟨hc, e⟩
    subst hc
    cases c' <;> simp only [pramAddr] <;> omega
  · cases c <;> cases c'
    case dsp0.dsp0 | dsp1.dsp1 => exact absurd rfl hc
    all_goals simp only [pramAddr]; omega

/-! ### Reads after a write of one word -/

/-- A write to XYRAM changes no PRAM word. -/
theorem State.pram_setXy (σ : State) (w : Half) (v : Word) (c : CoreId) {q : Nat} (h : Memory.wf σ.mem = true)
    (hq : q < 0x2000) : (σ.setXy w v).pram c q = σ.pram c q :=
  readWordAt_writeWordAt_ne _ _ _ _ h (xyAddr_pramAddr_apart w c hq).symm

@[simp] theorem State.mem_setPram (σ : State) (c : CoreId) (p : Nat) (v : Word) :
    (σ.setPram c p v).mem = writeWordAt σ.mem (pramAddr c p) v := State.mem_onCore _ c _

/-- A write to PRAM changes no XYRAM word. -/
theorem State.xy_setPram (σ : State) (c : CoreId) {p : Nat} (v : Word) (w : Half) (h : Memory.wf σ.mem = true)
    (hp : p < 0x2000) : (σ.setPram c p v).xy w = σ.xy w := by
  unfold State.xy
  rw [State.mem_setPram]
  exact readWordAt_writeWordAt_ne _ _ _ _ h (xyAddr_pramAddr_apart w c hp)

/-- PRAM read after a write. -/
theorem State.pram_setPram (σ : State) (c c' : CoreId) {p q : Nat} (v : Word) (h : Memory.wf σ.mem = true)
    (hp : p < 0x2000) (hq : q < 0x2000) :
    (σ.setPram c p v).pram c' q = if c' = c ∧ q = p then v else σ.pram c' q := by
  unfold State.pram
  rw [State.mem_setPram]
  split_ifs with hsame
  · obtain ⟨rfl, rfl⟩ := hsame
    exact readWordAt_writeWordAt _ _ _ h
  · exact readWordAt_writeWordAt_ne _ _ _ _ h (pramAddr_apart hp hq hsame)

/-- Settles O53: each write read back through each of the three windows. -/
theorem memoryReadAfterWrite : Obligations.MemoryReadAfterWrite := by
  intro σ w c p v h hp
  refine ⟨⟨?_, fun w' hw => ?_, fun c' q hq => ?_, ?_⟩, ?_, fun c' q hq hne => ?_, fun w' => ?_, ?_⟩
  · rw [σ.xy_setXy w w v h, if_pos rfl]
  · rw [σ.xy_setXy w w' v h, if_neg hw]
  · exact σ.pram_setXy w v c' h hq
  · exact σ.setXy_wf w v h
  · rw [σ.pram_setPram c c v h hp hp, if_pos ⟨rfl, rfl⟩]
  · rw [σ.pram_setPram c c' v h hp hq, if_neg hne]
  · exact σ.xy_setPram c v w' h hp
  · exact σ.setPram_wf c p v h

/-! ### Landing of far writes -/

/-- The bytes of a single word. -/
theorem bytesOf_one (w : Half) (b : Nat) : bytesOf w 1 b ↔ xyAddr w ≤ b ∧ b < xyAddr w + 4 := by
  simp [bytesOf]

/-- A write to XYRAM changes the four bytes of its word alone. -/
theorem State.readByte_setXy_of_not_bytesOf (σ : State) (w : Half) (v : Word) {b : Nat}
    (h : Memory.wf σ.mem = true) (hb : ¬bytesOf w 1 b) : readByte (σ.setXy w v).mem b = readByte σ.mem b := by
  rw [bytesOf_one] at hb
  exact (readByte_writeWordAt _ _ _ _ h).trans (if_neg hb)

/-- The oldest far write lands and leaves the queue; nothing else changes. -/
theorem State.landFirst_of_cons (σ : State) (c : CoreId) {e : FarWrite} {rest : List FarWrite}
    (hq : (σ.core c).farq = e :: rest) :
    σ.landFirst c =
      { σ.onCore c (fun k => { k with farq := rest }) with mem := (σ.setXy e.addr e.val).mem } := by
  unfold State.landFirst
  rw [hq]
  cases c <;> rfl

/-- A far write lands while the other core's segment has its clock. -/
theorem runEvent_drain (σ : State) (c : CoreId) (h : σ.canLand c = true) :
    runEvent (.drain c) σ = .next (σ.landFirst c) := by
  rw [runEvent, if_pos h]

/-- Settles O54: the event lands the head of the queue. -/
theorem farWritesInOrder : Obligations.FarWritesInOrder := by
  intro σ c e rest h hq hclk
  refine ⟨σ.landFirst c, runEvent_drain σ c hclk, ?_⟩
  rw [σ.landFirst_of_cons c hq]
  refine ⟨?_, fun b hb => σ.readByte_setXy_of_not_bytesOf e.addr e.val h hb, ?_, rfl⟩
  · exact (σ.xy_setXy e.addr e.addr e.val h).trans (if_pos rfl)
  · cases c <;> rfl

end Sys2Proof.Machine
end

section
/-! SUPPORT. The encoder's words: what each field of W1 and W2 holds, and that the decoder reads the instruction back
from them (30_encoding.md R158..R169). -/

namespace Sys2Proof

/-! ### Rows of the opcode tables -/

open Laws.SlotRow in
/-- The row of every instruction gives it back (30_encoding.md R162..R165). -/
theorem slotRow : ∀ x : Instr, Laws.SlotRow.Statement x
  | .nop => nop | .nopHi => nopHi | .clrd .. => clrd .. | .asx2 .. => asx2 .. | .addd .. => addd ..
  | .asxs .. => asxs .. | .subd .. => subd .. | .asxs2 .. => asxs2 .. | .adcd .. => adcd .. | .a4 .. => a4 ..
  | .sbcd .. => sbcd .. | .a8 .. => a8 .. | .addld .. => addld .. | .s4 .. => s4 .. | .trs16 .. => trs16 ..
  | .s8 .. => s8 .. | .fasx .. => fasx .. | .ra4 .. => ra4 .. | .fasxs .. => fasxs .. | .ra8 .. => ra8 ..
  | .fax .. => fax .. | .sga4 .. => sga4 .. | .fsx .. => fsx .. | .sga8 .. => sga8 .. | .trs17 .. => trs17 ..
  | .a8s .. => a8s .. | .trs18 .. => trs18 .. | .ms2 .. => ms2 .. | .trs19 .. => trs19 .. | .ms4 .. => ms4 ..
  | .fsa .. => fsa .. | .ms8 .. => ms8 .. | .trs0 .. => trs0 .. | .s8s .. => s8s .. | .trs1 .. => trs1 ..
  | .negde .. => negde .. | .trs2 .. => trs2 .. | .allft41 .. => allft41 .. | .trs3 .. => trs3 ..
  | .allft22 .. => allft22 .. | .trs4 .. => trs4 .. | .all4 .. => all4 .. | .trs5 .. => trs5 .. | .all2 .. => all2 ..
  | .trs6 .. => trs6 .. | .al4 .. => al4 .. | .trs7 .. => trs7 .. | .al2 .. => al2 .. | .trs8 .. => trs8 ..
  | .norvd .. => norvd .. | .trs9 .. => trs9 .. | .a81 .. => a81 .. | .trs10 .. => trs10 .. | .a42 .. => a42 ..
  | .trs11 .. => trs11 .. | .a24 .. => a24 .. | .trs12 .. => trs12 .. | .bf4 .. => bf4 .. | .trs13 .. => trs13 ..
  | .bif4 .. => bif4 .. | .trs14 .. => trs14 .. | .axj4 .. => axj4 .. | .trs15 .. => trs15 .. | .sxj4 .. => sxj4 ..
  | .cmpn4 .. => cmpn4 .. | .cmpn8 .. => cmpn8 .. | .andd .. => andd .. | .cmpz4 .. => cmpz4 ..
  | .andcd .. => andcd .. | .cmpz8 .. => cmpz8 .. | .andid .. => andid .. | .cmpnl2 .. => cmpnl2 ..
  | .insd .. => insd .. | .cmpnl4 .. => cmpnl4 .. | .ord .. => ord .. | .cmpzl2 .. => cmpzl2 .. | .orcd .. => orcd ..
  | .cmpzl4 .. => cmpzl4 .. | .orid .. => orid .. | .max4 .. => max4 .. | .eord .. => eord .. | .max8 .. => max8 ..
  | .notd .. => notd .. | .min4 .. => min4 .. | .trd .. => trd .. | .min8 .. => min8 .. | .maxl2 .. => maxl2 ..
  | .pdnxl .. => pdnxl .. | .maxl4 .. => maxl4 .. | .pdnde .. => pdnde .. | .minl2 .. => minl2 ..
  | .pdnd .. => pdnd .. | .minl4 .. => minl4 .. | .nopB => nopB | .nopBHi => nopBHi | .nopBMid => nopBMid
  | .mfx .. => mfx .. | .fm2 .. => fm2 .. | .mfxc .. => mfxc .. | .fms2 .. => fms2 .. | .mfx2 .. => mfx2 ..
  | .mfxc2 .. => mfxc2 .. | .trs16B .. => trs16B .. | .mf4 .. => mf4 .. | .mf8 .. => mf8 .. | .trs17B .. => trs17B ..
  | .ml2 .. => ml2 .. | .trs18B .. => trs18B .. | .uml .. => uml .. | .trs19B .. => trs19B .. | .uml2 .. => uml2 ..
  | .mfa81 .. => mfa81 .. | .trs0B .. => trs0B .. | .mfa41 .. => mfa41 .. | .trs1B .. => trs1B ..
  | .mfa42 .. => mfa42 .. | .trs2B .. => trs2B .. | .mfa21 .. => mfa21 .. | .trs3B .. => trs3B ..
  | .mfa22 .. => mfa22 .. | .trs4B .. => trs4B .. | .mfa24 .. => mfa24 .. | .trs5B .. => trs5B .. | .m4 .. => m4 ..
  | .trs6B .. => trs6B .. | .m2 .. => m2 .. | .trs7B .. => trs7B .. | .trs8B .. => trs8B .. | .trs9B .. => trs9B ..
  | .lsldi .. => lsldi .. | .trs10B .. => trs10B .. | .lslxl .. => lslxl .. | .trs11B .. => trs11B ..
  | .trs12B .. => trs12B .. | .asldi .. => asldi .. | .trs13B .. => trs13B .. | .aslxl .. => aslxl ..
  | .trs14B .. => trs14B .. | .trdB .. => trdB .. | .trs15B .. => trs15B .. | .lsld .. => lsld ..
  | .macx .. => macx .. | .rold .. => rold .. | .macx2 .. => macx2 .. | .macxc .. => macxc .. | .asld .. => asld ..
  | .macxc2 .. => macxc2 .. | .asrde .. => asrde .. | .mac41 .. => mac41 .. | .mac81 .. => mac81 ..
  | .btstdi .. => btstdi .. | .macxb4 .. => macxb4 .. | .lsrdi .. => lsrdi .. | .macl2 .. => macl2 ..
  | .lsrxl .. => lsrxl .. | .clrac .. => clrac .. | .ldac .. => ldac .. | .asrdi .. => asrdi ..
  | .ldacd .. => ldacd .. | .asrxl .. => asrxl .. | .stac .. => stac .. | .stacd .. => stacd .. | .smbd .. => smbd ..
  | .lsrd .. => lsrd .. | .mac42 .. => mac42 .. | .rord .. => rord .. | .mac24 .. => mac24 .. | .btstd .. => btstd ..
  | .mac22 .. => mac22 .. | .mac21 .. => mac21 .. | .asrd .. => asrd .. | .mac18 .. => mac18 ..
  | .mac14 .. => mac14 .. | .mac12 .. => mac12 .. | .mac11 .. => mac11 .. | .acsg8 .. => acsg8 ..
  | .acsg4 .. => acsg4 .. | .acsg2 .. => acsg2 .. | .acsg1 .. => acsg1 ..
  | .move9aX .. => move9aX _ _ _ _ _ | .move9aY .. => move9aY _ _ | .move9bR .. => move9bR _ _ _
  | .move9bY .. => move9bY _ _ | .move9dRC .. => move9dRC _ _ _ _ | .rti .. => rti ..

theorem lookup_op1Table {x : Instr} (h : x.place = .op1) :
    lookup op1Table x.code x.fieldT x.fieldD x.fieldS = some x := by
  simpa only [Laws.SlotRow.Statement, h] using slotRow x

theorem lookup_op2Table {x : Instr} (h : x.place = .op2) :
    lookup op2Table x.code x.fieldT x.fieldD x.fieldS = some x := by
  simpa only [Laws.SlotRow.Statement, h] using slotRow x

/-! ### Fields of a concatenation -/

/-- A field of the high part. -/
theorem extract_append_add {a b : Nat} (x : BitVec a) (y : BitVec b) (i n : Nat) :
    (x ++ y).extractLsb' (i + b) n = x.extractLsb' i n :=
  (BitVec.extractLsb'_append_eq_of_le (Nat.le_add_left b i)).trans (by rw [Nat.add_sub_cancel])

/-- A bit of the high part. -/
theorem getLsbD_append_add {a b : Nat} (x : BitVec a) (y : BitVec b) (i : Nat) :
    (x ++ y).getLsbD (i + b) = x.getLsbD i := by
  rw [BitVec.getLsbD_append, if_neg (Nat.not_lt.mpr (Nat.le_add_left b i)), Nat.add_sub_cancel]

/-- A bit of the low part. -/
theorem getLsbD_append_low {a b : Nat} (x : BitVec a) (y : BitVec b) {i : Nat} (h : i < b) :
    (x ++ y).getLsbD i = y.getLsbD i := by
  rw [BitVec.getLsbD_append, if_pos h]

theorem getLsbD_flag (b : Bool) : (flag b).getLsbD 0 = b := by
  cases b <;> rfl

/-- The bit of a flag that stands last. -/
theorem getLsbD_append_flag {a : Nat} (x : BitVec a) (b : Bool) : (x ++ flag b).getLsbD 0 = b :=
  (getLsbD_append_low x (flag b) Nat.one_pos).trans (getLsbD_flag b)

/-! ### W1 (R158..R160) -/

section
variable (op1 op2 : Instr) (mid : BitVec 5)

theorem isWide_wordOne : isWide (wordOne op1 op2 mid) = true := by
  have h : (wordOne op1 op2 mid).extractLsb' 7 4 = 0b1111#4 := Machine.extract_mid _ _ _
  simp [isWide, h]

theorem wordOne_code : (wordOne op1 op2 mid).extractLsb' 0 7 = op1.code := Machine.extract_low _ _

/-- What stands above the code and the format. -/
theorem wordOne_above (i n : Nat) : (wordOne op1 op2 mid).extractLsb' (i + 11) n =
    (op1.fieldT ++ op1.fieldD ++ op1.fieldS ++ op2.code.extractLsb' 6 1 ++ mid).extractLsb' i n :=
  (extract_append_add _ _ (i + 4) n).trans (extract_append_add _ _ i n)

theorem wordOne_bitM : (wordOne op1 op2 mid).extractLsb' 16 1 = op2.code.extractLsb' 6 1 :=
  (wordOne_above op1 op2 mid 5 1).trans (Machine.extract_mid _ _ _)

theorem wordOne_mid {i n : Nat} (h : i + n ≤ 5) :
    (wordOne op1 op2 mid).extractLsb' (i + 11) n = mid.extractLsb' i n :=
  (wordOne_above op1 op2 mid i n).trans (BitVec.extractLsb'_append_eq_of_add_le h)

theorem wordOne_midBit {i : Nat} (h : i < 5) : (wordOne op1 op2 mid).getLsbD (i + 11) = mid.getLsbD i :=
  (getLsbD_append_add _ _ (i + 4)).trans ((getLsbD_append_add _ _ i).trans (getLsbD_append_low _ _ h))

/-- The three operand fields. -/
theorem wordOne_operands (i n : Nat) : (wordOne op1 op2 mid).extractLsb' (i + 17) n =
    (op1.fieldT ++ op1.fieldD ++ op1.fieldS).extractLsb' i n :=
  (wordOne_above op1 op2 mid (i + 6) n).trans
    ((extract_append_add _ _ (i + 1) n).trans (extract_append_add _ _ i n))

end

/-! ### W2 (R158..R160) -/

section
variable (op2 : Instr) (mid : BitVec 9) (op3 : BitVec 2)

theorem wordTwo_code : (wordTwo op2 mid op3).extractLsb' 0 6 = op2.code.extractLsb' 0 6 := Machine.extract_low _ _

theorem wordTwo_op3 : (wordTwo op2 mid op3).extractLsb' 6 2 = op3 := Machine.extract_mid _ _ _

/-- What stands above OP2 and OP3. -/
theorem wordTwo_above (i n : Nat) : (wordTwo op2 mid op3).extractLsb' (i + 8) n =
    (op2.fieldT ++ op2.fieldD ++ op2.fieldS ++ mid).extractLsb' i n :=
  (extract_append_add _ _ (i + 2) n).trans (extract_append_add _ _ i n)

theorem wordTwo_mid {i n : Nat} (h : i + n ≤ 9) :
    (wordTwo op2 mid op3).extractLsb' (i + 8) n = mid.extractLsb' i n :=
  (wordTwo_above op2 mid op3 i n).trans (BitVec.extractLsb'_append_eq_of_add_le h)

theorem wordTwo_midBit {i : Nat} (h : i < 9) : (wordTwo op2 mid op3).getLsbD (i + 8) = mid.getLsbD i :=
  (getLsbD_append_add _ _ (i + 2)).trans ((getLsbD_append_add _ _ i).trans (getLsbD_append_low _ _ h))

/-- The three operand fields. -/
theorem wordTwo_operands (i n : Nat) : (wordTwo op2 mid op3).extractLsb' (i + 17) n =
    (op2.fieldT ++ op2.fieldD ++ op2.fieldS).extractLsb' i n :=
  (wordTwo_above op2 mid op3 (i + 9) n).trans (extract_append_add _ _ i n)

end

/-! ### Decoding the words -/

/-- The fields T, D, S of three fields side by side. -/
theorem extract_operands (t d s : BitVec 5) :
    (t ++ d ++ s).extractLsb' 10 5 = t ∧ (t ++ d ++ s).extractLsb' 5 5 = d ∧ (t ++ d ++ s).extractLsb' 0 5 = s :=
  ⟨(extract_append_add (t ++ d) s 5 5).trans (Machine.extract_high t d), Machine.extract_mid t d s,
    Machine.extract_low (t ++ d) s⟩

/-- Both compute slots are read back; what is left is the move (R162..R165). -/
theorem decodeWide_words {op1 op2 : Instr} (h1 : op1.place = .op1) (h2 : op2.place = .op2) (m1 : BitVec 5)
    (m2 : BitVec 9) (op3 : BitVec 2) :
    decodeWide (wordOne op1 op2 m1) (wordTwo op2 m2 op3) =
      decodeMoves op1 op2 (wordOne op1 op2 m1) (wordTwo op2 m2 op3) := by
  obtain ⟨t1, d1, s1⟩ := extract_operands op1.fieldT op1.fieldD op1.fieldS
  obtain ⟨t2, d2, s2⟩ := extract_operands op2.fieldT op2.fieldD op2.fieldS
  have hcode : op2.code.extractLsb' 6 1 ++ op2.code.extractLsb' 0 6 = op2.code :=
    BitVec.extractLsb'_append_extractLsb'
  unfold decodeWide
  rw [wordOne_code, wordOne_bitM, wordTwo_code, hcode, wordOne_operands op1 op2 m1 10 5, t1,
    wordOne_operands op1 op2 m1 5 5, d1, wordOne_operands op1 op2 m1 0 5, s1, lookup_op1Table h1,
    wordTwo_operands op2 m2 op3 10 5, t2, wordTwo_operands op2 m2 op3 5 5, d2, wordTwo_operands op2 m2 op3 0 5, s2,
    lookup_op2Table h2]

section
variable (op1 op2 : Instr)

/-- Format 9a (R158). -/
theorem decodeMoves_f9a (r : BitVec 4) (u : Bool) (aT : BitVec 2) (mode a : BitVec 3) (de : Bool) :
    decodeMoves op1 op2 (wordOne op1 op2 (r ++ flag u)) (wordTwo op2 (aT ++ mode ++ a ++ flag de) 0b00#2) =
      .ok (.f9a op1 op2 r u aT mode a de) := by
  have hr : (r ++ flag u).extractLsb' 1 4 = r := Machine.extract_high r (flag u)
  have haT : (aT ++ mode ++ a ++ flag de).extractLsb' 7 2 = aT :=
    (extract_append_add _ _ 6 2).trans ((extract_append_add _ _ 3 2).trans (Machine.extract_high aT mode))
  have hmode : (aT ++ mode ++ a ++ flag de).extractLsb' 4 3 = mode :=
    (extract_append_add _ _ 3 3).trans (Machine.extract_mid aT mode a)
  have ha : (aT ++ mode ++ a ++ flag de).extractLsb' 1 3 = a := Machine.extract_mid _ a _
  unfold decodeMoves
  rw [wordTwo_op3, wordOne_mid op1 op2 _ (by decide : 1 + 4 ≤ 5), hr, wordOne_midBit op1 op2 _ (by decide : 0 < 5),
    getLsbD_append_flag, wordTwo_mid op2 _ _ (by decide : 7 + 2 ≤ 9), haT,
    wordTwo_mid op2 _ _ (by decide : 4 + 3 ≤ 9), hmode, wordTwo_mid op2 _ _ (by decide : 1 + 3 ≤ 9), ha,
    wordTwo_midBit op2 _ _ (by decide : 0 < 9), getLsbD_append_flag]
  rfl

/-- Format 9b (R159). -/
theorem decodeMoves_f9b (rs : Reg) (aT : BitVec 2) (rd : Reg) (l u : Bool) :
    decodeMoves op1 op2 (wordOne op1 op2 rs) (wordTwo op2 (aT ++ rd ++ flag l ++ flag u) 0b01#2) =
      .ok (.f9b op1 op2 rs aT rd l u) := by
  have hrs : rs.extractLsb' 0 5 = rs := BitVec.extractLsb'_eq_self
  have haT : (aT ++ rd ++ flag l ++ flag u).extractLsb' 7 2 = aT :=
    (extract_append_add _ _ 6 2).trans ((extract_append_add _ _ 5 2).trans (Machine.extract_high aT rd))
  have hrd : (aT ++ rd ++ flag l ++ flag u).extractLsb' 2 5 = rd :=
    (extract_append_add _ _ 1 5).trans (Machine.extract_mid aT rd (flag l))
  have hl : (aT ++ rd ++ flag l ++ flag u).getLsbD 1 = l :=
    (getLsbD_append_add _ _ 0).trans (getLsbD_append_flag _ l)
  unfold decodeMoves
  rw [wordTwo_op3, wordOne_mid op1 op2 _ (by decide : 0 + 5 ≤ 5), hrs,
    wordTwo_mid op2 _ _ (by decide : 7 + 2 ≤ 9), haT, wordTwo_mid op2 _ _ (by decide : 2 + 5 ≤ 9), hrd,
    wordTwo_midBit op2 _ _ (by decide : 1 < 9), hl, wordTwo_midBit op2 _ _ (by decide : 0 < 9), getLsbD_append_flag]
  rfl

/-- Format 9d (R160): the control register is the one of its RC code in its subset. -/
theorem decodeMoves_f9d (rr : Reg) (rc : CReg) (l de : Bool) :
    decodeMoves op1 op2 (wordOne op1 op2 rr)
        (wordTwo op2 (flag rc.subset.2 ++ flag l ++ rc.code ++ flag rc.subset.1 ++ flag de) 0b11#2) =
      .ok (.f9d op1 op2 rr rc l de) := by
  have hrr : rr.extractLsb' 0 5 = rr := BitVec.extractLsb'_eq_self
  generalize hmid : flag rc.subset.2 ++ flag l ++ rc.code ++ flag rc.subset.1 ++ flag de = mid
  have hsx : mid.getLsbD 8 = rc.subset.2 := by
    rw [← hmid]
    exact (getLsbD_append_add _ _ 7).trans ((getLsbD_append_add _ _ 6).trans ((getLsbD_append_add _ _ 1).trans
      ((getLsbD_append_add _ _ 0).trans (getLsbD_flag _))))
  have hl : mid.getLsbD 7 = l := by
    rw [← hmid]
    exact (getLsbD_append_add _ _ 6).trans ((getLsbD_append_add _ _ 5).trans ((getLsbD_append_add _ _ 0).trans
      (getLsbD_append_flag _ l)))
  have hcode : mid.extractLsb' 2 5 = rc.code := by
    rw [← hmid]
    exact (extract_append_add _ _ 1 5).trans (Machine.extract_mid _ rc.code _)
  have hsc : mid.getLsbD 1 = rc.subset.1 := by
    rw [← hmid]
    exact (getLsbD_append_add _ _ 0).trans (getLsbD_append_flag _ _)
  have hde : mid.getLsbD 0 = de := hmid ▸ getLsbD_append_flag _ de
  unfold decodeMoves
  rw [wordTwo_op3, wordOne_mid op1 op2 _ (by decide : 0 + 5 ≤ 5), hrr, wordTwo_mid op2 _ _ (by decide : 2 + 5 ≤ 9),
    hcode, wordTwo_midBit op2 _ _ (by decide : 1 < 9), hsc, wordTwo_midBit op2 _ _ (by decide : 8 < 9), hsx,
    wordTwo_midBit op2 _ _ (by decide : 7 < 9), hl, wordTwo_midBit op2 _ _ (by decide : 0 < 9), hde,
    decodeRc_code]
  rfl

end

/-- The one word of RTI (R169). -/
def wordRti (opRts : BitVec 7) (cc : BitVec 4) : Word := cc ++ 0b0#1 ++ 0#16 ++ 0b0011#4 ++ opRts

theorem encode_rti (opRts : BitVec 7) (cc : BitVec 4) : encode opRts (.rti cc) = (wordRti opRts cc, 0) := rfl

theorem wordRti_format (opRts : BitVec 7) (cc : BitVec 4) : (wordRti opRts cc).extractLsb' 7 4 = 0b0011#4 :=
  Machine.extract_mid _ _ _

/-- Every instruction but RTI has two words. -/
theorem isWide_encode (opRts : BitVec 7) (b : Bundle) :
    isWide (encode opRts b).1 = true ∨ ∃ cc, b = .rti cc ∧ isWide (encode opRts b).1 = false := by
  cases b
  case rti cc => exact .inr ⟨cc, rfl, by rw [encode_rti, isWide, wordRti_format]; rfl⟩
  all_goals exact .inl (isWide_wordOne _ _ _)

/-- RTI is recognised by its format, its bit 27 and its opcode (R169). -/
theorem decode_wordRti (opRts : BitVec 7) (cc : BitVec 4) (w2 : Word) :
    decode opRts (wordRti opRts cc) w2 = .ok (.rti cc) := by
  have hfmt := wordRti_format opRts cc
  have hwide : ¬isWide (wordRti opRts cc) = true := by
    rw [isWide, hfmt]
    decide
  have hbit : (wordRti opRts cc).getLsbD 27 = false :=
    (getLsbD_append_add _ _ 20).trans ((getLsbD_append_add _ _ 16).trans ((getLsbD_append_add _ _ 0).trans
      ((getLsbD_append_low cc 0b0#1 Nat.one_pos).trans rfl)))
  have hop : (wordRti opRts cc).extractLsb' 0 7 = opRts := Machine.extract_low _ _
  have hcc : (wordRti opRts cc).extractLsb' 28 4 = cc :=
    (extract_append_add _ _ 21 4).trans ((extract_append_add _ _ 17 4).trans ((extract_append_add _ _ 1 4).trans
      (Machine.extract_high cc _)))
  rw [decode, if_neg hwide, if_pos ⟨hfmt, hbit, hop⟩, hcc]

/-- Two words whose first begins with the wide format are decoded as such (R132, R133). -/
theorem decode_words (opRts : BitVec 7) {op1 op2 : Instr} (h : (op1.place == .op1 && op2.place == .op2) = true)
    (m1 : BitVec 5) (m2 : BitVec 9) (op3 : BitVec 2) :
    decode opRts (wordOne op1 op2 m1) (wordTwo op2 m2 op3) =
      decodeMoves op1 op2 (wordOne op1 op2 m1) (wordTwo op2 m2 op3) := by
  rw [Bool.and_eq_true, beq_iff_eq, beq_iff_eq] at h
  rw [decode, if_pos (isWide_wordOne op1 op2 m1), decodeWide_words h.1 h.2]

end Sys2Proof

namespace Sys2Proof.Machine

/-- Settles O59, format by format. -/
theorem decodeOfEncode : Obligations.DecodeOfEncode := by
  intro opRts b h
  cases b
  case f9a => exact (decode_words opRts h _ _ _).trans (decodeMoves_f9a _ _ _ _ _ _ _ _)
  case f9b => exact (decode_words opRts h _ _ _).trans (decodeMoves_f9b _ _ _ _ _ _ _)
  case f9d => exact (decode_words opRts h _ _ _).trans (decodeMoves_f9d _ _ _ _ _ _)
  case rti => exact decode_wordRti opRts _ _

/-- Settles O60, word by word. -/
theorem decodeWords : Obligations.DecodeWords :=
  ⟨rfl, rfl, rfl, rfl, rfl, rfl, rfl, rfl, rfl, rfl, rfl, rfl, rfl⟩

end Sys2Proof.Machine
end

section
/-! SUPPORT. The step of a core that fetches an encoded instruction (30_encoding.md R130..R132; 60_exceptions.md
R497). -/

namespace Sys2Proof.Machine

/-- Fetch of an encoded instruction that lies in PRAM whole, with no base-set statement there (30_encoding.md
R130..R132). -/
theorem fetch_encoded {σ : State} {b : Bundle} (hb : b.slotsOk = true) (hbase : σ.me.baseCode = [])
    (hpc : σ.me.pc.toNat < 0x1FFF) (h1 : σ.pram σ.turn σ.me.pc.toNat = (encode σ.cfg.opRts b).1)
    (h2 : isWide (encode σ.cfg.opRts b).1 = true →
      σ.pram σ.turn (σ.me.pc.toNat + 1) = (encode σ.cfg.opRts b).2) :
    fetch σ = .insn (.bundle b) := by
  have hsecond : (if isWide (encode σ.cfg.opRts b).1 then σ.pram σ.turn (σ.me.pc.toNat + 1) else 0) =
      (encode σ.cfg.opRts b).2 := by
    rcases isWide_encode σ.cfg.opRts b with hwide | ⟨cc, rfl, hnarrow⟩
    · rw [if_pos hwide, h2 hwide]
    · rw [hnarrow]
      rfl
  have hin : ¬0x1FFF < σ.me.pc.toNat := by omega
  have hlast : (σ.me.pc.toNat == 0x1FFF) = false := beq_false_of_ne (by omega)
  unfold fetch
  simp only [if_neg hin, hbase, List.find?_nil, hlast, Bool.and_false, Bool.false_eq_true, if_false, h1, hsecond,
    decodeOfEncode σ.cfg.opRts b hb]

/-- A step of a running core with no access held, no breakpoint at its pc and no interrupt to accept runs the next
instruction (60_exceptions.md R497). -/
theorem coreStep_runNext {σ : State} {take : Bool} (hclk : σ.clk σ.turn = true) (herr : σ.me.stackErr = false)
    (hheld : σ.me.held = none) (hrun : σ.me.stopped = false) (hsar : σ.me.sarMatch = false)
    (hdb : σ.me.dbSarMatch = false) (hacc : σ.me.accepts = false) : coreStep take σ = runNext σ := by
  simp [coreStep, hclk, herr, hheld, hrun, hsar, hdb, hacc]

/-- With no far write pending none lands. -/
theorem State.landEvery_of_nil {σ : State} {c : CoreId} (h : (σ.core c).farq = []) : σ.landEvery c = σ := by
  have hcore : { σ.core c with farq := [] } = σ.core c := by rw [← h]
  unfold State.landEvery
  rw [h, landAll, State.onCore, hcore]
  cases c <;> rfl

theorem step_of_sched_nil {σ : State} (h : σ.sched = []) : step σ = unscheduled σ := by
  unfold step stepOnce
  rw [h]

/-- A step with no schedule: the far writes of the core whose turn it is land, it makes a step, the turn passes on. -/
theorem unscheduled_of_landed {σ ρ : State} (h : (if σ.canLand σ.turn then σ.landEvery σ.turn else σ) = ρ) :
    unscheduled σ = match coreStep true ρ with
      | .next τ => .next τ.nextTurn
      | .fault r => .fault r
      | .refused r => .refused r := by
  subst h
  rfl

/-- Settles O48: the fetch gives the instruction, and the step runs it. -/
theorem stepRunsDecoded : Obligations.StepRunsDecoded := by
  intro σ b hb hclk herr hheld hrun hsar hdb hacc hbase hpc h1 h2
  have hstep : coreStep true σ = runBundle b σ := by
    rw [coreStep_runNext hclk herr hheld hrun hsar hdb hacc, runNext, fetch_encoded hb hbase hpc h1 h2]
    rfl
  refine ⟨hstep, fun hsched hfar => ?_⟩
  have hland : (if σ.canLand σ.turn then σ.landEvery σ.turn else σ) = σ := by
    rw [State.landEvery_of_nil hfar, ite_self]
  rw [step_of_sched_nil hsched]
  exact hstep ▸ unscheduled_of_landed hland

end Sys2Proof.Machine
end

section
/-! SUPPORT. A whole instruction: what its parts gather, when it may run, and where it leaves the pc (30_encoding.md
R132, R174; 41_control_and_changed_results.md R211; 70_reset_and_hazards.md R534, R535). -/

namespace Sys2Proof.Machine

/-! ### The parts of an instruction -/

theorem blocked_append (a b : List Write) : blocked (a ++ b) = (blocked a || blocked b) := by
  induction a with
  | nil => rfl
  | cons w rest ih =>
    cases w
    case block => rfl
    all_goals exact ih

/-- An instruction whose writes do not block has no part that blocks. -/
theorem blocked_part {g : Gathered} (h : blocked g.writes = false) {p : Instr × List Write} (hp : p ∈ g) :
    blocked p.2 = false := by
  induction g with
  | nil => cases hp
  | cons q rest ih =>
    have hsplit : blocked q.2 = false ∧ blocked (Gathered.writes rest) = false := by
      rw [← Bool.or_eq_false_iff, ← blocked_append]
      exact h
    rcases List.mem_cons.mp hp with rfl | hp
    · exact hsplit.1
    · exact ih hsplit.2 hp

/-- What is gathered are the parts in their order, each with its own effect from the one state before. -/
theorem gather_ok {σ : State} : ∀ {xs : List Instr} {g : Gathered}, gather σ xs = .ok g →
    g.map (·.1) = xs ∧ ∀ p ∈ g, fx p.1 σ = .ok p.2
  | [], g, h => by
    cases h
    exact ⟨rfl, fun p hp => by cases hp⟩
  | x :: rest, g, h => by
    unfold gather at h
    split at h
    · cases h
    rename_i ws hx
    split at h
    · cases h
    rename_i g' hrest
    cases h
    obtain ⟨hparts, hfx⟩ := gather_ok hrest
    refine ⟨congrArg (x :: ·) hparts, fun p hp => ?_⟩
    rcases List.mem_cons.mp hp with rfl | hp
    · exact hx
    · exact hfx p hp

/-- A part that need not wait commits its writes, the move that may have to wait included. -/
theorem exec_next_of_fx {x : Instr} {σ : State} {ws : List Write} (h : fx x σ = .ok ws) (hb : blocked ws = false) :
    exec x σ = .next (commitAll ws σ) := by
  have hsolo : solo (fx x σ) σ = .next (commitAll ws σ) := by rw [h]; rfl
  cases x
  case move9dRC rr rc l de =>
    have hmove : move9d σ rr rc l de = .ok ws := h
    simp only [exec, execMove9dRC, fxMove9dRC, hmove, soloOrHold, hb, Bool.false_eq_true, if_false]
  all_goals exact hsolo

/-! ### A whole instruction -/

/-- The one instruction that may run with SR.BD = 1 (70_reset_and_hazards.md R534). -/
theorem clearsBd_iff (σ : State) (b : Bundle) : clearsBd σ b = true ↔
    ∃ op1 op2 rr l, b = .f9d op1 op2 rr .sr l σ.cfg.deDir ∧ (σ.me.h rr).getLsbD 10 = false ∧
      op1 ∈ [Instr.nop, .nopHi] ∧ op2 ∈ [Instr.nopB, .nopBMid, .nopBHi] := by
  cases b
  case f9d op1 op2 rr rc l de =>
    simp only [clearsBd, Bool.and_eq_true, Bool.or_eq_true, beq_iff_eq, Bool.not_eq_true', List.mem_cons,
      List.not_mem_nil, or_false, Bundle.f9d.injEq]
    constructor
    · rintro ⟨⟨⟨⟨rfl, rfl⟩, hbit⟩, h1⟩, h2⟩
      exact ⟨op1, op2, rr, l, ⟨rfl, rfl, rfl, rfl, rfl, rfl⟩, hbit, h1, or_assoc.mp h2⟩
    · rintro ⟨_, _, _, _, ⟨rfl, rfl, rfl, rfl, rfl, rfl⟩, hbit, h1, h2⟩
      exact ⟨⟨⟨⟨rfl, rfl⟩, hbit⟩, h1⟩, or_assoc.mpr h2⟩
  all_goals
    refine iff_of_false Bool.false_ne_true ?_
    rintro ⟨_, _, _, _, h, -⟩
    cases h

theorem runBundle_blockingDisabled {σ : State} {b : Bundle} (hbd : σ.me.bd = true) (hb : clearsBd σ b = false) :
    runBundle b σ = .refused .blockingDisabled := by
  simp [runBundle, hbd, hb]

/-- An instruction that may run and whose parts complete without conflict and without waiting. -/
theorem runBundle_next {σ : State} {b : Bundle} {g : Gathered} (hbd : (σ.me.bd && !clearsBd σ b) = false)
    (hg : gather σ b.parts = .ok g) (hc : conflictOf σ b g = none) (hb : blocked g.writes = false) :
    runBundle b σ = .next ((commitAll g.writes σ).retire (pcAfter σ (commitAll g.writes σ) b)
      (traceOf σ (commitAll g.writes σ) g)) := by
  simp [runBundle, hbd, hg, hc, hb]

/-- An instruction that ran to its end has retired its parts' writes. -/
theorem eq_retire_of_runBundle {σ τ : State} {b : Bundle} {g : Gathered} (hg : gather σ b.parts = .ok g)
    (hb : blocked g.writes = false) (h : runBundle b σ = .next τ) :
    ∃ pc t, τ = (commitAll g.writes σ).retire pc t := by
  unfold runBundle at h
  split at h
  · cases h
  rw [hg] at h
  dsimp only at h
  split at h
  · cases h
  · rw [hb] at h
    cases h
    exact ⟨_, _, rfl⟩

/-- The return writes the pc it pops; on an empty stack the pc stays (41_control_and_changed_results.md R211, R220). -/
theorem Core.pc_returnIsr_cons {k : Core} {p : Half} {rest : List Half} (h : k.pcstack = p :: rest) :
    k.returnIsr.pc = p := by
  simp [Core.returnIsr, h]

theorem Core.pc_returnIsr_nil {k : Core} (h : k.pcstack = []) : k.returnIsr.pc = k.pc := by
  simp [Core.returnIsr, h, Core.stackFail]

/-- RTI, when it completes, makes the return and nothing else (R211). -/
theorem commit_rti {σ : State} {cc : BitVec 4} {g : Gathered} (h : gather σ (Bundle.rti cc).parts = .ok g) :
    commitAll g.writes σ = σ.onMe Core.returnIsr := by
  have hfx : fx (.rti cc) σ = if cc = σ.cfg.ccAlways then .ok [.leave] else .error .rtiCondition := rfl
  simp only [Bundle.parts, gather, hfx] at h
  split_ifs at h
  cases h
  rfl

theorem pcAfter_of_not_rti {σ ρ : State} {b : Bundle} (h : ∀ cc, b ≠ .rti cc) : pcAfter σ ρ b = σ.me.pc + 2 := by
  cases b
  case rti cc => exact absurd rfl (h cc)
  all_goals rfl

theorem pcAfter_rti {σ : State} {cc : BitVec 4} {g : Gathered} (h : gather σ (Bundle.rti cc).parts = .ok g) :
    pcAfter σ (commitAll g.writes σ) (.rti cc) = σ.me.returnIsr.pc := by
  rw [commit_rti h, pcAfter, State.me_onMe]

/-- Settles O49: the instruction that may run with SR.BD = 1, the parts one by one, the pc by format. -/
theorem bundleRunsItsParts : Obligations.BundleRunsItsParts := by
  intro σ b allowed
  have hallowed : allowed ↔ (σ.me.bd && !clearsBd σ b) = false := by
    rw [Bool.and_eq_false_iff, Bool.not_eq_false', clearsBd_iff]
  refine ⟨fun hno => ?_, fun g hok hg hc hb => ?_⟩
  · rw [hallowed, Bool.not_eq_false, Bool.and_eq_true, Bool.not_eq_true'] at hno
    obtain ⟨hbd, hkeeps⟩ := hno
    exact runBundle_blockingDisabled hbd hkeeps
  obtain ⟨hparts, hfx⟩ := gather_ok hg
  refine ⟨hparts, fun p hp => exec_next_of_fx (hfx p hp) (blocked_part hb hp), _,
    runBundle_next (hallowed.mp hok) hg hc hb, pcAfter_of_not_rti, ?_, ?_⟩
  · rintro cc p rest rfl hstack
    exact (pcAfter_rti hg).trans (Core.pc_returnIsr_cons hstack)
  · rintro cc rfl hstack
    exact (pcAfter_rti hg).trans (Core.pc_returnIsr_nil hstack)

end Sys2Proof.Machine
end

section
/-! SUPPORT. The 16-bit units of the register file under the writes of a whole instruction: a write keeps the units it
does not touch, and what it leaves in a unit depends on that unit alone (10_state.md R22..R26; 30_encoding.md R174). -/

namespace Sys2Proof.Machine

/-! ### Writes outside the register file -/

/-- A write of a register-file view. -/
def Write.isRow : Write → Bool
  | .h _ _ | .l _ _ | .d _ _ | .q _ _ => true
  | _ => false

/-- Far writes that land change no core. -/
theorem landAll_me : ∀ (l : List FarWrite) (σ : State), (landAll l σ).me = σ.me
  | [], _ => rfl
  | e :: rest, σ => landAll_me rest (σ.setXy e.addr e.val)

/-- The update of one core keeps the rows of a core when it keeps those of the core it updates. -/
theorem State.rows_onCore (σ : State) (c c' : CoreId) {f : Core → Core} (hf : ∀ k, (f k).rows = k.rows) :
    ((σ.onCore c f).core c').rows = (σ.core c').rows := by
  cases c <;> cases c'
  case dsp0.dsp0 | dsp1.dsp1 => exact hf _
  all_goals rfl

theorem State.me_rows_onCore (σ : State) (c : CoreId) {f : Core → Core} (hf : ∀ k, (f k).rows = k.rows) :
    (σ.onCore c f).me.rows = σ.me.rows := by
  rw [State.me, State.turn_onCore]
  exact σ.rows_onCore c σ.turn hf

theorem Core.rows_setCtl (k : Core) (rc : CReg) (v : Word) : (k.setCtl rc v).rows = k.rows := by
  cases rc <;> rfl

theorem Core.rows_returnIsr (k : Core) : k.returnIsr.rows = k.rows := by
  unfold Core.returnIsr
  split <;> rfl

theorem State.me_rows_raise (σ : State) (c : CoreId) (n : Nat) : (σ.raise c n).me.rows = σ.me.rows :=
  σ.me_rows_onCore c fun _ => rfl

theorem State.me_rows_dstart (σ : State) (v : Word) : (σ.dstart v).me.rows = σ.me.rows := by
  unfold State.dstart
  dsimp only
  split
  · split
    · exact (State.me_rows_raise _ _ _).trans (State.me_rows_raise _ _ _)
    · exact State.me_rows_raise _ _ _
  · split
    · exact State.me_rows_raise _ _ _
    · rfl

/-- Every other write leaves the register file alone. -/
theorem commit_rows {w : Write} (h : w.isRow = false) (σ : State) : (commit w σ).me.rows = σ.me.rows := by
  cases w
  case h | l | d | q => cases h
  case word a v =>
    simp only [commit, State.writeOne]
    split
    · exact σ.me_rows_onCore σ.turn fun _ => rfl
    · rfl
  case land =>
    refine (State.me_rows_onCore _ σ.turn ?_).trans (congrArg Core.rows (landAll_me _ σ))
    exact fun _ => rfl
  case dstart v => exact σ.me_rows_dstart v
  case ctl rc v => exact σ.me_rows_onCore σ.turn fun k => k.rows_setCtl rc v
  case leave => exact σ.me_rows_onCore σ.turn Core.rows_returnIsr
  case xWrite | xRead | draw | block => rfl
  all_goals exact σ.me_rows_onCore σ.turn fun _ => rfl

theorem Core.unit_of_rows {k k' : Core} (h : k.rows = k'.rows) (u : BitVec 7) : k.unit u = k'.unit u := by
  simp only [Core.unit, Core.row, h]

/-! ### One write -/

/-- A write keeps the units it does not touch. -/
theorem commit_unit_of_untouched {w : Write} {u : BitVec 7} (h : w.units.getLsbD u.toNat = false) (σ : State) :
    (commit w σ).me.unit u = σ.me.unit u := by
  cases hw : w.isRow
  case false => exact Core.unit_of_rows (commit_rows hw σ) u
  cases w
  case h n v => exact (congrArg (Core.unit · u) (State.me_onMe _ _)).trans (σ.me.unit_setH n v u h)
  case l n v => exact (congrArg (Core.unit · u) (State.me_onMe _ _)).trans (σ.me.unit_setL n v u h)
  case d n v => exact (congrArg (Core.unit · u) (State.me_onMe _ _)).trans (σ.me.unit_setD n v u h)
  case q n v => exact (congrArg (Core.unit · u) (State.me_onMe _ _)).trans (σ.me.unit_setQ n v u h)
  all_goals cases hw

/-- A change of a row after which rows that agreed on a bit agree on it still. -/
def BitLocal {w : Nat} (f : Quad → BitVec w) : Prop :=
  ∀ (x y : Quad) (p : Nat), x.getLsbD p = y.getLsbD p → (f x).getLsbD p = (f y).getLsbD p

section
variable {m n lo : Nat} (v : BitVec n)

theorem bitLocal_low : BitLocal fun x => x.extractLsb' n m ++ v := by
  intro x y p h
  simp only [BitVec.getLsbD_append, BitVec.getLsbD_extractLsb']
  split_ifs with hlow
  · rfl
  · rw [Nat.add_sub_cancel' (Nat.not_lt.mp hlow), h]

theorem bitLocal_high : BitLocal fun x => v ++ x.extractLsb' 0 lo := by
  intro x y p h
  simp only [BitVec.getLsbD_append, BitVec.getLsbD_extractLsb', Nat.zero_add, h]

theorem bitLocal_mid : BitLocal fun x => x.extractLsb' (lo + n) m ++ v ++ x.extractLsb' 0 lo := by
  intro x y p h
  simp only [BitVec.getLsbD_append, BitVec.getLsbD_extractLsb', Nat.zero_add, h]
  split_ifs with hlow hmid
  · rfl
  · rfl
  · rw [show lo + n + (p - lo - n) = p by omega, h]

theorem BitLocal.ite {w : Nat} {f g : Quad → BitVec w} (hf : BitLocal f) (hg : BitLocal g) (b : Bool) :
    BitLocal fun x => if b then f x else g x := by
  cases b
  case true => exact hf
  case false => exact hg

end

section
variable {k k' : Core} {u : BitVec 7} (h : k.unit u = k'.unit u) (n : Reg)
include h

/-- Cores that agree on a unit agree on it after one row of each is replaced, where the new rows agree on every bit on
which the old ones do. -/
theorem Core.unit_setRow_congr (r : BitVec 4) {v v' : Quad}
    (hv : ∀ p, (k.row r).getLsbD p = (k'.row r).getLsbD p → v.getLsbD p = v'.getLsbD p) :
    (k.setRow r v).unit u = (k'.setRow r v').unit u := by
  unfold Core.unit at *
  by_cases e : r = u.extractLsb' 3 4
  · subst e
    rw [Core.row_setRow_same, Core.row_setRow_same]
    apply BitVec.eq_of_getLsbD_eq
    intro i hi
    have hbit := congrArg (BitVec.getLsbD · i) h
    simp only [BitVec.getLsbD_extractLsb', hi, decide_true, Bool.true_and] at hbit ⊢
    exact hv _ hbit
  · rw [Core.row_setRow_ne _ _ e, Core.row_setRow_ne _ _ e, h]

theorem Core.unit_setH_congr (v : Half) : (k.setH n v).unit u = (k'.setH n v).unit u :=
  Core.unit_setRow_congr h _ <|
    (bitLocal_mid (m := 96) (lo := 16) v).ite (bitLocal_low (m := 112) v) (oddReg n) _ _

theorem Core.unit_setL_congr (v : Word) : (k.setL n v).unit u = (k'.setL n v).unit u :=
  Core.unit_setRow_congr h _ <|
    (bitLocal_mid (m := 64) (lo := 32) v).ite (bitLocal_low (m := 96) v) (oddReg n) _ _

theorem Core.unit_setD_congr (v : Dbl) : (k.setD n v).unit u = (k'.setD n v).unit u :=
  Core.unit_setRow_congr h _ <|
    (bitLocal_high (lo := 64) v).ite (bitLocal_low (m := 64) v) (oddReg n) _ _

theorem Core.unit_setQ_congr (v : Quad) : (k.setQ n v).unit u = (k'.setQ n v).unit u :=
  Core.unit_setRow_congr h _ fun _ _ => rfl

end

/-- What a write leaves in a unit depends on no other unit of the state it is made in. -/
theorem commit_unit_congr {σ ρ : State} {u : BitVec 7} (h : σ.me.unit u = ρ.me.unit u) (w : Write) :
    (commit w σ).me.unit u = (commit w ρ).me.unit u := by
  cases hw : w.isRow
  case false => rw [Core.unit_of_rows (commit_rows hw σ), h, Core.unit_of_rows (commit_rows hw ρ)]
  cases w
  case h n v => simpa only [commit, State.me_onMe] using Core.unit_setH_congr h n v
  case l n v => simpa only [commit, State.me_onMe] using Core.unit_setL_congr h n v
  case d n v => simpa only [commit, State.me_onMe] using Core.unit_setD_congr h n v
  case q n v => simpa only [commit, State.me_onMe] using Core.unit_setQ_congr h n v
  all_goals cases hw

/-! ### All writes of an instruction -/

theorem commitAll_unit_congr {u : BitVec 7} : ∀ (ws : List Write) {σ ρ : State}, σ.me.unit u = ρ.me.unit u →
    (commitAll ws σ).me.unit u = (commitAll ws ρ).me.unit u
  | [], _, _, h => h
  | w :: rest, _, _, h => commitAll_unit_congr rest (commit_unit_congr h w)

theorem commitAll_unit_of_untouched {u : BitVec 7} : ∀ {ws : List Write} (σ : State),
    (unionOf Write.units ws).getLsbD u.toNat = false → (commitAll ws σ).me.unit u = σ.me.unit u
  | [], _, _ => rfl
  | w :: rest, σ, h => by
    rw [unionOf, BitVec.getLsbD_or, Bool.or_eq_false_iff] at h
    exact (commitAll_unit_of_untouched (commit w σ) h.2).trans (commit_unit_of_untouched h.1 σ)

theorem commitAll_append (a b : List Write) (σ : State) : commitAll (a ++ b) σ = commitAll b (commitAll a σ) := by
  induction a generalizing σ with
  | nil => rfl
  | cons w rest ih => exact ih (commit w σ)

/-- Parts that do not touch a unit keep it. -/
theorem commitAll_writes_unit {u : BitVec 7} : ∀ {g : Gathered} (σ : State),
    (∀ p ∈ g, (unionOf Write.units p.2).getLsbD u.toNat = false) → (commitAll g.writes σ).me.unit u = σ.me.unit u
  | [], _, _ => rfl
  | p :: rest, σ, h => by
    have hsplit : commitAll (Gathered.writes (p :: rest)) σ = commitAll (Gathered.writes rest) (commitAll p.2 σ) :=
      commitAll_append p.2 _ σ
    rw [hsplit, commitAll_writes_unit _ fun q hq => h q (List.mem_cons_of_mem p hq),
      commitAll_unit_of_untouched σ (h p List.mem_cons_self)]

theorem State.unit_retire (σ : State) (pc : Half) (t : Trace) (u : BitVec 7) :
    (σ.retire pc t).me.unit u = σ.me.unit u := by
  rw [State.retire, State.me_onMe]
  rfl

/-- Settles O50: the parts before the one that touches the unit leave it as it was, those after it leave what
it wrote. -/
theorem partsReadOldState : Obligations.PartsReadOldState := by
  intro σ τ b g u hg hb hrun
  obtain ⟨pc, t, rfl⟩ := eq_retire_of_runBundle hg hb hrun
  rw [State.unit_retire]
  refine ⟨commitAll_writes_unit σ, fun g1 g2 x ws ρ hsplit hothers hx => ?_⟩
  subst hsplit
  have hmem : (x, ws) ∈ g1 ++ (x, ws) :: g2 := List.mem_append_right g1 List.mem_cons_self
  obtain ⟨-, hfx⟩ := gather_ok hg
  have halone : ρ = commitAll ws σ :=
    Host.Outcome.next.inj (hx.symm.trans (exec_next_of_fx (hfx _ hmem) (blocked_part hb hmem)))
  have hwrites : Gathered.writes (g1 ++ (x, ws) :: g2) =
      Gathered.writes g1 ++ (ws ++ Gathered.writes g2) := List.flatMap_append
  have hbefore : (commitAll (Gathered.writes g1) σ).me.unit u = σ.me.unit u :=
    commitAll_writes_unit σ fun p hp => hothers p (List.mem_append_left g2 hp)
  calc (commitAll (Gathered.writes (g1 ++ (x, ws) :: g2)) σ).me.unit u
      = (commitAll (Gathered.writes g2) (commitAll ws (commitAll (Gathered.writes g1) σ))).me.unit u := by
        rw [hwrites, commitAll_append, commitAll_append]
    _ = (commitAll ws (commitAll (Gathered.writes g1) σ)).me.unit u :=
        commitAll_writes_unit _ fun p hp => hothers p (List.mem_append_right g1 hp)
    _ = (commitAll ws σ).me.unit u := commitAll_unit_congr ws hbefore
    _ = ρ.me.unit u := by rw [halone]

end Sys2Proof.Machine
end

section
/-! SUPPORT. The move of format 9d, in both directions: what a well-formed one does, register by register (40_moves.md
R191..R200). -/

namespace Sys2Proof.Machine

/-! ### The two directions of a well-formed move -/

/-- Only an accumulator is moved in 128 bits (40_moves.md R195). -/
theorem width9d_w128 {rc : CReg} {l : Bool} (h : width9d rc l = some .w128) : ∃ n, rc = .ac n := by
  cases rc
  case ac n => exact ⟨n, rfl⟩
  all_goals cases l <;> cases h

section
variable {σ : State} {rr : Reg} {rc : CReg} {l de : Bool} {w : Width} {ws : List Write} {r : Refusal}
  (hwf : (Instr.move9dRC rr rc l de).wf σ.cfg.macNField = true) (hw : width9d rc l = some w)
include hwf hw

/-- A well-formed move passes every check of format 9d (40_moves.md R191, R194, R195; 10_state.md R26). -/
theorem move9d_of_wf : move9d σ rr rc l de =
    if (de == σ.cfg.deDir) = true then moveToRc σ rc w rr else moveFromRc σ rc w rr := by
  simp only [Instr.wf, Instr.check] at hwf
  cases hstack : stackReg rc
  case true => simp [hstack] at hwf
  rw [move9d_of_width hstack hw]
  by_cases hac : ∃ n, rc = .ac n
  · obtain ⟨n, rfl⟩ := hac
    cases hview : accViewOk n w
    case false => simp [hw, hview, IllFormed.unless, stackReg] at hwf
    cases hreg : regOk w rr
    case false => simp [hw, hview, hreg, IllFormed.unless, stackReg] at hwf
    simp [moveCtl, hstack, hview, hreg]
  · have hreg : regOk w rr = true := by
      cases w
      case w128 => exact absurd (width9d_w128 hw) hac
      all_goals rfl
    cases rc
    case ac n => exact absurd ⟨n, rfl⟩ hac
    all_goals simp [moveCtl, hstack, hreg]


/-- A move out of the control register that need not wait. -/
theorem exec_moveFrom (hde : de ≠ σ.cfg.deDir) (hmove : moveFromRc σ rc w rr = .ok ws) (hb : blocked ws = false) :
    exec (.move9dRC rr rc l de) σ = .next (commitAll ws σ) := by
  refine exec_next_of_fx ((move9d_of_wf hwf hw).trans ?_) hb
  rw [if_neg (by simpa using hde), hmove]

/-- A move into the control register that need not wait. -/
theorem exec_moveTo (hde : de = σ.cfg.deDir) (hmove : moveToRc σ rc w rr = .ok ws) (hb : blocked ws = false) :
    exec (.move9dRC rr rc l de) σ = .next (commitAll ws σ) := by
  refine exec_next_of_fx ((move9d_of_wf hwf hw).trans ?_) hb
  rw [if_pos (by simpa using hde), hmove]

/-- A refused value is not moved. -/
theorem exec_moveTo_refused (hde : de = σ.cfg.deDir) (hmove : moveToRc σ rc w rr = .error r) :
    exec (.move9dRC rr rc l de) σ = .refused r := by
  refine exec_refused_of_fx ((move9d_of_wf hwf hw).trans ?_)
  rw [if_pos (by simpa using hde), hmove]

end

/-! ### Moves out of the plain control registers -/

/-- A 16-bit value zero-extended and cut again (10_state.md R70). -/
theorem low_setWidth (h : Half) : (h.setWidth 32).extractLsb' 0 16 = h := by
  apply BitVec.eq_of_getLsbD_eq
  intro i hi
  simp [hi, Nat.lt_trans hi]

section
variable {σ : State} {rr : Reg} {rc : CReg} {l de : Bool} (hde : de ≠ σ.cfg.deDir)
  (hwf : (Instr.move9dRC rr rc l de).wf σ.cfg.macNField = true)
include hde hwf

/-- A move out of a register in 16 bits. -/
theorem yieldsH_moveFrom {v : Half} (hw : width9d rc l = some .w16)
    (hmove : moveFromRc σ rc .w16 rr = .ok [.h rr ((σ.getCtl σ.turn rc).extractLsb' 0 16)])
    (hv : (σ.getCtl σ.turn rc).extractLsb' 0 16 = v) : YieldsH (.move9dRC rr rc l de) σ rr (· = v) :=
  yieldsH_of (exec_moveFrom hwf hw hde hmove rfl) hv

/-- A move out of a register in 32 bits. -/
theorem yieldsL_moveFrom (hw : width9d rc l = some .w32)
    (hmove : moveFromRc σ rc .w32 rr = .ok [.l rr (σ.getCtl σ.turn rc)]) :
    YieldsL (.move9dRC rr rc l de) σ rr (· = σ.getCtl σ.turn rc) :=
  yieldsL_of (exec_moveFrom hwf hw hde hmove rfl) rfl

end

/-- Settles O38, register by register in its own width: a 16-bit register is read zero-extended and cut to 16 bits, A[n]
and AT give their low half or all of their bits. -/
theorem moveFromControl : Obligations.MoveFromControl := by
  intro σ rr de n hde k
  simp only [List.forall_mem_cons, List.not_mem_nil, false_implies, implies_true, and_true]
  refine ⟨⟨?i, ?m, ?it, ?mt, ?dt, ?ivar, ?lowA, ?lowT, ?dcsr, ?sr, ?idr, ?arbr, ?sar, ?cntr, ?pdnr⟩,
    ⟨?efr, ?irqr, ?imaskr, ?tmr, ?sfr⟩, ?wholeA, ?wholeT⟩
  case lowA | lowT => exact yieldsH_moveFrom hde rfl rfl rfl rfl
  case idr =>
    refine yieldsH_moveFrom hde rfl rfl rfl ((low_setWidth _).trans ?_)
    cases σ.turn <;> rfl
  case i | m | it | mt | dt | ivar | dcsr | sr | arbr | sar | cntr | pdnr =>
    exact yieldsH_moveFrom hde rfl rfl rfl (low_setWidth _)
  all_goals exact yieldsL_moveFrom hde rfl rfl rfl

/-! ### Moves into the plain control registers -/

/-- The registers whose move only checks the value and stores it (40_moves.md R194, R200). -/
def storedMove : CReg → Bool
  | .x _ | .ac _ | .a _ | .ptrT | .idr | .efr => false
  | _ => true

/-- The value a move gives a control register: R[rr].L, or R[rr] zero-extended. -/
def movedValue (σ : State) (rr : Reg) : Width → Word
  | .w32 => σ.me.l rr
  | _ => (σ.me.h rr).setWidth 32

section
variable {σ : State} {rr : Reg} {rc : CReg} {w : Width} (hrc : storedMove rc = true)
include hrc

/-- A move that only checks and stores is what the check of its value says (40_moves.md R194, R200). -/
theorem moveToRc_eq : moveToRc σ rc w rr =
    ((ctlRefusal σ.me rc (movedValue σ rr w)).map Except.error).getD (.ok [.ctl rc (movedValue σ rr w)]) := by
  cases rc
  case x | ac | a | ptrT | idr | efr => cases hrc
  all_goals
    cases w
    all_goals
      simp only [moveToRc, movedValue]
      split <;> rename_i hcheck <;> rw [hcheck] <;> rfl

theorem moveToRc_stored (h : ctlRefusal σ.me rc (movedValue σ rr w) = none) :
    moveToRc σ rc w rr = .ok [.ctl rc (movedValue σ rr w)] := by
  rw [moveToRc_eq hrc, h]
  rfl

theorem moveToRc_refused {r : Refusal} (h : ctlRefusal σ.me rc (movedValue σ rr w) = some r) :
    moveToRc σ rc w rr = .error r := by
  rw [moveToRc_eq hrc, h]
  rfl

end

theorem State.onMe_self (σ : State) : (σ.onMe fun k => k) = σ := by
  obtain ⟨_, _, _, _, _, _, _, _, _, _, turn, _, _, _, _⟩ := σ
  cases turn <;> rfl

/-- A move that stores one value in one control register. -/
theorem exec_moveTo_ctl {σ : State} {rr : Reg} {rc : CReg} {l de : Bool} {w : Width} {v : Word} {f : Core → Core}
    (hwf : (Instr.move9dRC rr rc l de).wf σ.cfg.macNField = true) (hw : width9d rc l = some w)
    (hde : de = σ.cfg.deDir) (hmove : moveToRc σ rc w rr = .ok [.ctl rc v]) (hset : σ.me.setCtl rc v = f σ.me) :
    exec (.move9dRC rr rc l de) σ = .next (σ.onMe f) :=
  (exec_moveTo hwf hw hde hmove rfl).trans (congrArg Host.Outcome.next (σ.onMe_congr (f := (·.setCtl rc v)) hset))

/-- Settles O39, register by register: the value is checked by nothing, stored, and nothing else is written. -/
theorem moveToControl : Obligations.MoveToControl := by
  intro σ rr de n hde h l
  have hlow : (movedValue σ rr .w16).extractLsb' 0 16 = h := low_setWidth h
  simp only [List.forall_mem_cons, List.not_mem_nil, false_implies, implies_true, and_true]
  refine ⟨⟨?i, ?m, ?it, ?mt, ?dt, ?ivar, ?sr, ?idr, ?sar, ?cntr, ?pdnr, ?imaskr, ?tmr, ?sfr, ?lowA, ?lowT⟩,
    ?wholeA, ?wholeT⟩
  case idr => exact (exec_moveTo (ws := []) rfl rfl hde rfl rfl).trans (congrArg Host.Outcome.next σ.onMe_self.symm)
  case imaskr | tmr | sfr => exact exec_moveTo_ctl rfl rfl hde (moveToRc_stored rfl rfl) rfl
  case lowA | lowT | wholeA | wholeT => exact exec_moveTo_ctl rfl rfl hde rfl rfl
  all_goals exact exec_moveTo_ctl rfl rfl hde (moveToRc_stored rfl rfl) (by simp only [Core.setCtl, hlow])

/-! ### Registers with reserved bits -/

/-- A value writes no reserved bit exactly when it has no 1 outside the defined bits (10_state.md R69). -/
theorem within_eq_true_iff {n : Nat} {defined v : BitVec n} : within defined v = true ↔ v &&& ~~~defined = 0 :=
  beq_iff_eq

/-- The bits of DCSR after a write: RUN and bits 3..0 from the value, WAIT kept, the reserved bits 0 (R40, R200). -/
theorem Core.getLsbD_writeDcsr (k : Core) (v : Half) {j : Nat} (hj : j < 16) :
    (k.writeDcsr v).dcsr.getLsbD j = if j = 4 then k.dcsr.getLsbD 4 else
      if j = 14 ∨ j < 4 then v.getLsbD j else false := by
  simp only [Core.writeDcsr, BitVec.getLsbD_or, BitVec.getLsbD_and]
  interval_cases j <;> simp

/-- Settles O40: each register's defined bits, the refusal outside them, the bits of DCSR one by one. -/
theorem moveToReservedControl : Obligations.MoveToReservedControl := by
  intro σ rr de hde h l
  have hlow : (movedValue σ rr .w16).extractLsb' 0 16 = h := low_setWidth h
  have hdcsr : ctlRefusal σ.me .dcsr (movedValue σ rr .w16) =
      if within dcsrDefined h then none else some .reservedBit := by
    simp only [ctlRefusal, hlow]
  have harbr : ctlRefusal σ.me .arbr (movedValue σ rr .w16) =
      if within arbrDefined h then none else some .reservedBit := by
    simp only [ctlRefusal, hlow]
  refine ⟨fun hv => ?dcsr, fun hv => ?dcsrRefused, fun hv => ?irqr, fun hv => ?irqrRefused, fun hv => ?arbr,
    fun hv => ?arbrRefused⟩
  case dcsr =>
    refine ⟨σ.onMe fun k => k.writeDcsr h, ?_, fun j hj => ?_, ?_⟩
    · exact exec_moveTo_ctl rfl rfl hde (moveToRc_stored rfl (hdcsr.trans (if_pos (within_eq_true_iff.mpr hv))))
        (by simp only [Core.setCtl, hlow])
    · rw [State.me_onMe, Core.getLsbD_writeDcsr _ _ hj]
    · exact σ.onMe_congr (by rw [State.me_onMe]; rfl)
  case dcsrRefused =>
    exact exec_moveTo_refused rfl rfl hde
      (moveToRc_refused rfl (hdcsr.trans (if_neg (within_eq_true_iff.not.mpr hv))))
  case irqr =>
    exact exec_moveTo_ctl rfl rfl hde (moveToRc_stored rfl (if_pos (within_eq_true_iff.mpr hv))) rfl
  case irqrRefused =>
    exact exec_moveTo_refused rfl rfl hde (moveToRc_refused rfl (if_neg (within_eq_true_iff.not.mpr hv)))
  case arbr =>
    exact exec_moveTo_ctl rfl rfl hde (moveToRc_stored rfl (harbr.trans (if_pos (within_eq_true_iff.mpr hv))))
      (by simp only [Core.setCtl, hlow])
  case arbrRefused =>
    exact exec_moveTo_refused rfl rfl hde
      (moveToRc_refused rfl (harbr.trans (if_neg (within_eq_true_iff.not.mpr hv))))

/-! ### CCR -/

/-- A core that has read CCR (40_moves.md R194). -/
def Core.seeCcr (k : Core) : Core :=
  { k with ccrSeen := if k.ccrSeen.contains k.ccr then k.ccrSeen else k.ccr :: k.ccrSeen }

theorem Core.ccr_mem_seeCcr (k : Core) : k.ccr ∈ k.seeCcr.ccrSeen := by
  unfold Core.seeCcr
  dsimp only
  split_ifs with h
  · exact List.contains_iff_mem.mp h
  · exact List.mem_cons_self

theorem Core.mem_seeCcr {k : Core} {v : Half} (hv : v ∈ k.ccrSeen) : v ∈ k.seeCcr.ccrSeen := by
  unfold Core.seeCcr
  dsimp only
  split_ifs
  · exact hv
  · exact List.mem_cons_of_mem _ hv

/-- Settles O44: the read writes the register and remembers the value; the write is refused for a value not seen. -/
theorem saveRestoreCcr : Obligations.SaveRestoreCcr := by
  intro σ rr de
  have hlow : (movedValue σ rr .w16).extractLsb' 0 16 = σ.me.h rr := low_setWidth _
  have hccr : ctlRefusal σ.me .ccr (movedValue σ rr .w16) =
      if σ.me.ccrSeen.contains (σ.me.h rr) then none else some .ccrValue := by
    simp only [ctlRefusal, hlow]
  refine ⟨fun hde => ?read, fun hde hseen => ?restore, fun hde hnew => ?refused⟩
  case read =>
    have hme : (σ.onMe fun k => (k.setH rr σ.me.ccr).seeCcr).me = (σ.me.setH rr σ.me.ccr).seeCcr := State.me_onMe _ _
    refine ⟨σ.onMe fun k => (k.setH rr σ.me.ccr).seeCcr, ?_, ?_⟩
    · refine (exec_moveFrom (ws := [.h rr σ.me.ccr, .seeCcr]) rfl rfl hde rfl rfl).trans ?_
      exact congrArg Host.Outcome.next (σ.onMe_onMe _ Core.seeCcr)
    · rw [hme]
      exact ⟨σ.me.h_setH_same rr _, (σ.me.setH rr σ.me.ccr).ccr_mem_seeCcr,
        fun v hv => Core.mem_seeCcr (k := σ.me.setH rr σ.me.ccr) hv, fun u hu => σ.me.unit_setH rr _ u hu,
        σ.onMe_congr rfl⟩
  case restore =>
    exact exec_moveTo_ctl rfl rfl hde
      (moveToRc_stored rfl (hccr.trans (if_pos (List.contains_iff_mem.mpr hseen)))) (by simp only [Core.setCtl, hlow])
  case refused =>
    exact exec_moveTo_refused rfl rfl hde
      (moveToRc_refused rfl (hccr.trans (if_neg (List.contains_iff_mem.not.mpr hnew))))

/-! ### The wide accumulator views -/

theorem Core.acL_eq_getD (k : Core) (n : BitVec 4) : k.acL n = k.acc.toList.getD n.toNat 0 := by
  have hn : n.toNat < k.acc.toList.length := by simp [n.isLt]
  rw [List.getD_eq_getElem _ _ hn, Vector.getElem_toList]
  rfl

/-- The numbers of the two halves of a 64-bit accumulator (10_state.md R30). -/
theorem toNat_halves (j : BitVec 3) :
    (j ++ 1#1 : BitVec 4).toNat = 2 * j.toNat + 1 ∧ (j ++ 0#1 : BitVec 4).toNat = 2 * j.toNat := by
  revert j
  decide

/-- The numbers of the two 64-bit accumulators of a 128-bit view (10_state.md R29). -/
theorem toNat_pair (q : BitVec 2) :
    (q ++ 1#1 : BitVec 3).toNat = 2 * q.toNat + 1 ∧ (q ++ 0#1 : BitVec 3).toNat = 2 * q.toNat := by
  revert q
  decide

theorem pair_ne (q : BitVec 2) : (q ++ 1#1 : BitVec 3) ≠ q ++ 0#1 := by
  revert q
  decide

theorem accView_d (j : BitVec 3) :
    (j ++ 0#1 : BitVec 4).extractLsb' 1 3 = j ∧ accViewOk (j ++ 0#1) .w64 = true := by
  revert j
  decide

theorem accView_q (q : BitVec 2) :
    (q ++ 0#2 : BitVec 4).extractLsb' 2 2 = q ∧ accViewOk (q ++ 0#2) .w128 = true := by
  revert q
  decide

theorem Core.acc64_eq_getD (k : Core) (j : BitVec 3) :
    k.acc64 j = k.acc.toList.getD (2 * j.toNat + 1) 0 ++ k.acc.toList.getD (2 * j.toNat) 0 := by
  obtain ⟨hhigh, hlow⟩ := toNat_halves j
  rw [Core.acc64, Core.acL_eq_getD, Core.acL_eq_getD, hhigh, hlow]

theorem append_words (w3 w2 w1 w0 : Word) : ((w3 ++ w2) ++ (w1 ++ w0) : Quad) = w3 ++ w2 ++ w1 ++ w0 :=
  BitVec.append_assoc'

theorem Core.acQ_eq_getD (k : Core) (q : BitVec 2) : k.acQ (q ++ 0#2) =
    k.acc.toList.getD (4 * q.toNat + 3) 0 ++ k.acc.toList.getD (4 * q.toNat + 2) 0 ++
      k.acc.toList.getD (4 * q.toNat + 1) 0 ++ k.acc.toList.getD (4 * q.toNat) 0 := by
  obtain ⟨hhigh, hlow⟩ := toNat_pair q
  obtain ⟨hfield, -⟩ := accView_q q
  rw [Core.acQ, hfield, Core.acc64_eq_getD, Core.acc64_eq_getD, hhigh, hlow,
    show 2 * (2 * q.toNat + 1) + 1 = 4 * q.toNat + 3 by omega, show 2 * (2 * q.toNat + 1) = 4 * q.toNat + 2 by omega,
    show 2 * (2 * q.toNat) + 1 = 4 * q.toNat + 1 by omega, show 2 * (2 * q.toNat) = 4 * q.toNat by omega]
  exact append_words _ _ _ _

/-- Settles O41: the views as numbered accumulators, the writes as writes of one or two 64-bit accumulators. -/
theorem moveAccumulatorViews : Obligations.MoveAccumulatorViews := by
  intro σ rr de j q ac
  obtain ⟨hj, hviewD⟩ := accView_d j
  obtain ⟨hq, hviewQ⟩ := accView_q q
  have hwfD : (Instr.move9dRC rr (.ac (j ++ 0#1)) false de).wf σ.cfg.macNField = true := by
    simp [Instr.wf, Instr.check, stackReg, width9d, hviewD, regOk, IllFormed.unless]
  have hwfQ (hrr : quadOk rr = true) : (Instr.move9dRC rr (.ac (q ++ 0#2)) true de).wf σ.cfg.macNField = true := by
    simp [Instr.wf, Instr.check, stackReg, width9d, hviewQ, regOk, hrr, IllFormed.unless]
  refine ⟨fun hde => ⟨?fromD, fun hrr => ?fromQ⟩, fun hde => ⟨?toD, fun hrr => ?toQ⟩⟩
  case fromD =>
    refine yieldsD_of (exec_moveFrom (w := .w64) hwfD rfl hde rfl rfl) ?_
    rw [Core.acD, hj, Core.acc64_eq_getD]
  case fromQ =>
    exact yieldsQ_of (exec_moveFrom (w := .w128) (hwfQ hrr) rfl hde rfl rfl) (σ.me.acQ_eq_getD q)
  case toD =>
    refine ⟨σ.onMe fun k => k.setAcc64 j (σ.me.d rr), ?_, ?_, frame_setAcc64 σ j _⟩
    · exact exec_moveTo (w := .w64) (ws := [.acc64 j (σ.me.d rr)]) hwfD rfl hde (by simp only [moveToRc, hj]) rfl
    · rw [State.me_onMe, Core.acc64_setAcc64_same]
  case toQ =>
    let ρ := σ.onMe fun k => k.setAcc64 (q ++ 0#1) ((σ.me.q rr).extractLsb' 0 64)
    have hρ : ρ.me = σ.me.setAcc64 (q ++ 0#1) ((σ.me.q rr).extractLsb' 0 64) := State.me_onMe _ _
    refine ⟨ρ.onMe fun k => k.setAcc64 (q ++ 1#1) ((σ.me.q rr).extractLsb' 64 64), ?_, ?_, ?_, ?_⟩
    · exact exec_moveTo (w := .w128) (ws := [.acc64 (q ++ 0#1) _, .acc64 (q ++ 1#1) _]) (hwfQ hrr) rfl hde
        (by simp only [moveToRc, hq]) rfl
    · rw [State.me_onMe, Core.acc64_setAcc64_ne _ _ (pair_ne q), hρ, Core.acc64_setAcc64_same]
    · rw [State.me_onMe, Core.acc64_setAcc64_same]
    · exact (frame_setAcc64 σ _ _).trans (frame_setAcc64 ρ _ _)

/-! ### XBUF -/

section
variable {σ : State} {k : BitVec 5} {isWrite : Bool} (ws : List Write)

/-- With the clock of DSP0 off XBUF is not reached (20_memory.md R121). -/
theorem xAccess_gated (hclk : σ.clk0 = false) : xAccess σ k isWrite ws = .error .clockOff :=
  if_pos hclk

/-- In the synchronous mode an access whose type EFR[k] shows must wait (R117). -/
theorem xAccess_waits (hclk : σ.clk0 = true) (hw : σ.synwork = true ∧ σ.efr.getLsbD k.toNat = isWrite) :
    xAccess σ k isWrite ws = .ok [.block k isWrite] := by
  simp [xAccess, hclk, hw]

theorem xAccess_allowed (hclk : σ.clk0 = true) (hw : ¬(σ.synwork = true ∧ σ.efr.getLsbD k.toNat = isWrite)) :
    xAccess σ k isWrite ws = .ok ws := by
  simp only [xAccess, hclk, Bool.true_eq_false, if_false]
  exact if_neg (by simpa using hw)

end

/-- The writes of a move of Xk when its access may be made: into Xk, or out of it (40_moves.md R193). -/
def xWrites (σ : State) (rr : Reg) (k : BitVec 5) (toX : Bool) : List Write :=
  if toX then [.xWrite k (σ.me.d rr)] else [.d rr (σ.xbuf[k.toNat]'k.isLt), .xRead k]

/-- A move of Xk is one access of XBUF, a write or a read by its direction. -/
theorem fx_moveX (σ : State) (rr : Reg) (k : BitVec 5) (de : Bool) :
    fx (.move9dRC rr (.x k) false de) σ =
      xAccess σ k (de == σ.cfg.deDir) (xWrites σ rr k (de == σ.cfg.deDir)) := by
  refine (move9d_of_wf (rc := .x k) (l := false) (w := .w64) rfl rfl).trans ?_
  cases de == σ.cfg.deDir <;> rfl

/-- A whole instruction one of whose parts must wait is held whole (40_moves.md R193). -/
theorem runBundle_hold {σ : State} {b : Bundle} {g : Gathered} (hbd : σ.me.bd = false)
    (hg : gather σ b.parts = .ok g) (hc : conflictOf σ b g = none) (hb : blocked g.writes = true) :
    runBundle b σ = .next (σ.hold (.bundle b)) := by
  simp [runBundle, hbd, hg, hc, hb]

/-- The first part gathered is the first part of the instruction, with its own writes. -/
theorem gather_cons {σ : State} {x : Instr} {rest : List Instr} {g : Gathered} {ws : List Write}
    (hx : fx x σ = .ok ws) (hg : gather σ (x :: rest) = .ok g) : ∃ g', g = (x, ws) :: g' := by
  unfold gather at hg
  rw [hx] at hg
  dsimp only at hg
  split at hg
  · cases hg
  · cases hg
    exact ⟨_, rfl⟩

/-- On its own the move of format 9d stands in an instruction of its format with NOP in both compute slots. -/
theorem exec_move9dRC (rr : Reg) (rc : CReg) (l de : Bool) (σ : State) : exec (.move9dRC rr rc l de) σ =
    soloOrHold (.bundle (.f9d .nop .nopB rr rc l de)) (fx (.move9dRC rr rc l de) σ) σ := rfl

/-- Settles O42: the access is made, waits, or is refused; waiting, the move holds the instruction it stands in. -/
theorem exchangeBuffer : Obligations.ExchangeBuffer := by
  intro σ rr de k toX x waits
  have hfx : fx x σ = xAccess σ k toX (xWrites σ rr k toX) := fx_moveX σ rr k de
  refine ⟨fun hclk hgo hfrom => ?read, fun hclk hgo hto => ?write, fun hclk hwait => ?wait, fun hclk => ?gated⟩
  case read =>
    rw [exec_next_of_fx (hfx.trans (xAccess_allowed _ hclk hgo)) (by rw [hfrom]; rfl), hfrom]
    exact congrArg Host.Outcome.next (by simp [xWrites, commitAll, commit])
  case write =>
    rw [exec_next_of_fx (hfx.trans (xAccess_allowed _ hclk hgo)) (by rw [hto]; rfl), hto]
    rfl
  case wait =>
    have hblock : fx x σ = .ok [.block k toX] := hfx.trans (xAccess_waits _ hclk hwait)
    refine ⟨?_, fun op1 op2 g => fun hbd hg hc => ?_⟩
    · rw [exec_move9dRC, hblock]
      rfl
    · obtain ⟨g', rfl⟩ := gather_cons hblock hg
      exact runBundle_hold hbd hg hc rfl
  case gated => exact exec_refused_of_fx (hfx.trans (xAccess_gated _ hclk))

/-! ### DSTART -/

/-- The requests of a DSTART value, core by core, beside the starts of DMA channels (60_exceptions.md R476). -/
theorem State.dstart_eq (σ : State) (v : Word) :
    let raised (c : Core) (b : Bool) : Core :=
      { c with irqr := if b then setBit c.irqr (if σ.turn.bit then 25 else 24) true else c.irqr }
    σ.dstart v =
      { σ with dmaStarts := σ.dmaStarts ++ ([0, 1, 2, 3] : List (BitVec 2)).filter (fun k => v.getLsbD k.toNat),
               core0 := raised σ.core0 (v.getLsbD 24), core1 := raised σ.core1 (v.getLsbD 25) } := by
  unfold State.dstart
  cases v.getLsbD 24 <;> cases v.getLsbD 25 <;> rfl

/-- A bit of IRQR after a request that may be raised. -/
theorem getLsbD_raised (v : Word) (b : Bool) {n : Nat} (hn : n < 32) (j : Nat) :
    (if b then setBit v n true else v).getLsbD j = (v.getLsbD j || (b && j == n)) := by
  cases b
  case false => simp
  case true =>
    rw [if_pos rfl, getLsbD_setBit]
    by_cases hj : j = n <;> simp [hj, hn]

/-- Settles O43: the write of DSTART is its event, refused for a reserved bit. -/
theorem startDma : Obligations.StartDma := by
  intro σ rr de hde v i
  refine ⟨fun hv => ⟨σ.dstart v, ?_, ?_⟩, fun hv => ?_⟩
  · exact exec_moveTo (w := .w32) (ws := [.dstart v]) rfl rfl hde (if_pos (within_eq_true_iff.mpr hv)) rfl
  · have hi : (if σ.turn.bit then 25 else 24) = 24 + i := by
      unfold i
      cases σ.turn <;> rfl
    rw [State.dstart_eq, hi]
    have hlt : 24 + i < 32 := by
      unfold i
      split <;> decide
    exact ⟨rfl, fun j _ => getLsbD_raised _ _ hlt j, fun j _ => getLsbD_raised _ _ hlt j, rfl⟩
  · exact exec_moveTo_refused (w := .w32) rfl rfl hde (if_neg (within_eq_true_iff.not.mpr hv))

end Sys2Proof.Machine
end

section
/-! SUPPORT. The memory moves of formats 9a and 9b: where an access is refused, what a load leaves in a register, what a
store leaves in memory or in the queue of far writes (40_moves.md R181..R190; 20_memory.md R100..R121). -/

namespace Sys2Proof.Machine

/-! ### The pointer and its access -/

/-- The number of a DSP word address within its page, from the whole pointer (20_memory.md R103). -/
theorem toNat_low_mod (p : Word) : (p.extractLsb' 0 16).toNat % 0x2000 = p.toNat % 0x2000 := by
  rw [BitVec.extractLsb'_toNat]
  omega

theorem wordsOf_le (u : Bool) : wordsOf u ≤ 0x2000 := by
  cases u <;> decide

section
variable {σ : State} {p : Word} {m : Nat} (hm : m ≤ 0x2000)

/-- High pointer bits are refused first (10_state.md R35). -/
theorem accessRefusal_high (h : p.extractLsb' 16 16 ≠ 0) : accessRefusal σ p m = some .pointerHigh :=
  if_pos h

include hm

theorem accessRefusal_cross (h : p.extractLsb' 16 16 = 0) (hc : 0x2000 < (p.extractLsb' 0 16).toNat % 0x2000 + m) :
    accessRefusal σ p m = some .pageCross :=
  (if_neg (not_not.mpr h)).trans (if_pos (by omega))

/-- Within one page only the clock of the segment may be missing (20_memory.md R121). -/
theorem accessRefusal_within (h : p.extractLsb' 16 16 = 0) (hc : (p.extractLsb' 0 16).toNat % 0x2000 + m ≤ 0x2000) :
    accessRefusal σ p m =
      if σ.clk (if (p.extractLsb' 0 16).getLsbD 15 then .dsp1 else .dsp0) then none else some .clockOff :=
  (if_neg (not_not.mpr h)).trans (if_neg (by omega))

theorem accessRefusal_none (h : Reaches σ p m) : accessRefusal σ p m = none := by
  obtain ⟨hhigh, hpage, hclk⟩ := h
  rw [accessRefusal_within hm hhigh (by rw [toNat_low_mod]; exact hpage)]
  exact if_pos (by simpa using hclk)

end

theorem pointerDelta_known {act : Action} (h : act ≠ .unknown) (m : Nat) (offset : Half) :
    pointerDelta act m offset = some (gain act m offset) := by
  cases act
  case unknown => exact absurd rfl h
  case postDec => exact congrArg some (BitVec.zero_sub _)
  all_goals rfl

/-- The write of the pointer register after an access (40_moves.md R183). -/
def pointerWrite (rc : CReg) (p : Word) (act : Action) (m : Nat) (offset : Half) : List Write :=
  if act = .noUpdate then [] else [.ctl rc (lowSum p (gain act m offset))]

section
variable {σ : State} {rc : CReg} {p : Word} {act : Action} {m : Nat} {offset : Half} {transfer : Half → List Write}

theorem throughPointer_unknown (h : act = .unknown) :
    throughPointer σ rc p act m offset transfer = .error .unknownMode := by
  subst h
  rfl

theorem throughPointer_refused {r : Refusal} (hact : act ≠ .unknown) (h : accessRefusal σ p m = some r) :
    throughPointer σ rc p act m offset transfer = .error r := by
  simp only [throughPointer, pointerDelta_known hact, h]

/-- An access that the spec lets be made: the transfer, then the pointer's update. -/
theorem throughPointer_reaches (hm : m ≤ 0x2000) (hact : act ≠ .unknown) (h : Reaches σ p m) :
    throughPointer σ rc p act m offset transfer =
      .ok (transfer (p.extractLsb' 0 16) ++ pointerWrite rc p act m offset) := by
  simp only [throughPointer, pointerDelta_known hact, accessRefusal_none hm h, pointerWrite]

end

/-! ### Where a move is refused -/

/-- The Y move with the YM restriction met (70_reset_and_hazards.md R532). -/
theorem moveY_through {σ : State} {code : BitVec 2} {u : Bool}
    (h : σ.cfg.atMode.getD code.toNat .unknown = .noUpdate ∨ ymFresh σ = false) :
    moveY σ code u = throughPointer σ .ptrT σ.me.ptrT (σ.cfg.atMode.getD code.toNat .unknown) (wordsOf u) σ.me.dt
      (loadInto σ 1 0 u) := by
  refine if_neg ?_
  rcases h with h | h
  · exact fun hno => hno.1 h
  · exact fun hno => Bool.false_ne_true (h.symm.trans hno.2)

/-- The Y move is the same in formats 9a and 9b (40_moves.md R182, R190). -/
theorem fx_exec_moveY {σ : State} {code : BitVec 2} {u : Bool} {x : Instr}
    (hx : x = .move9aY code u ∨ x = .move9bY code u) :
    fx x σ = moveY σ code u ∧ exec x σ = solo (moveY σ code u) σ := by
  rcases hx with rfl | rfl <;> exact ⟨rfl, rfl⟩

/-- Settles O37: the checks of a memory move in their order. -/
theorem memoryMoveStops : Obligations.MemoryMoveStops := by
  intro σ u p act x code m w yMove yAct
  refine ⟨fun hy hmod hfresh => ?_, fun hmove => ?_⟩
  · exact exec_refused_of_fx ((fx_exec_moveY hy).1.trans (if_pos ⟨hmod, hfresh⟩))
  obtain ⟨rc, offset, transfer, hfx⟩ : ∃ rc offset transfer, fx x σ = throughPointer σ rc p act m offset transfer := by
    rcases hmove with ⟨r, mode, a, de, rfl, rfl, rfl⟩ | ⟨hy, rfl, rfl, hfree⟩
    · exact ⟨_, _, _, rfl⟩
    · exact ⟨_, _, _, (fx_exec_moveY hy).1.trans (moveY_through hfree)⟩
  have hm : m ≤ 0x2000 := wordsOf_le u
  have stop {r : Refusal} (hact : act ≠ .unknown) (h : accessRefusal σ p m = some r) : exec x σ = .refused r :=
    exec_refused_of_fx (hfx.trans (throughPointer_refused hact h))
  refine ⟨fun hact => ?unknown, fun hact hhigh => ?high, fun hact hlow hc => ?cross, fun hact hlow hc hclk => ?clock⟩
  case unknown => exact exec_refused_of_fx (hfx.trans (throughPointer_unknown hact))
  case high => exact stop hact (accessRefusal_high hhigh)
  case cross => exact stop hact (accessRefusal_cross hm hlow hc)
  case clock =>
    refine stop hact ((accessRefusal_within hm hlow hc).trans (if_neg ?_))
    exact ne_true_of_eq_false hclk

/-! ### The state that a read sees -/

/-- Far writes that land change memory alone. -/
theorem landAll_eq : ∀ (l : List FarWrite) (σ : State), landAll l σ = { σ with mem := (landAll l σ).mem }
  | [], _ => rfl
  | e :: rest, σ => landAll_eq rest (σ.setXy e.addr e.val)

/-- The two states differ in memory and in the far writes of the core whose turn it is alone. -/
def SameButStores (σ τ : State) : Prop :=
  τ = { σ.onMe fun k => { k with farq := τ.me.farq } with mem := τ.mem }

theorem SameButStores.me {σ τ : State} (h : SameButStores σ τ) : τ.me = { σ.me with farq := τ.me.farq } :=
  (congrArg State.me h).trans (State.me_onMe σ _)

theorem State.sameButStores_withMem (σ : State) (m : List Host.Cell) : SameButStores σ { σ with mem := m } := by
  obtain ⟨_, _, _, _, _, _, _, _, _, _, turn, _, _, _, _⟩ := σ
  cases turn <;> rfl

theorem State.sameButStores_onMe (σ : State) (m : List Host.Cell) (q : List FarWrite) :
    SameButStores σ (State.onMe { σ with mem := m } fun k => { k with farq := q }) := by
  obtain ⟨_, _, _, _, _, _, _, _, _, _, turn, _, _, _, _⟩ := σ
  cases turn <;> rfl

/-- A read sees the far writes landed that it must see (60_exceptions.md R496). -/
theorem State.sameButStores_viewFor (σ : State) (w : Half) : SameButStores σ (σ.viewFor w) := by
  unfold State.viewFor
  split
  · rw [State.landOld, landAll_eq]
    exact σ.sameButStores_onMe _ _
  · exact σ.sameButStores_withMem σ.mem

theorem State.me_viewFor (σ : State) (w : Half) : (σ.viewFor w).me = { σ.me with farq := (σ.viewFor w).me.farq } :=
  (σ.sameButStores_viewFor w).me

/-- With near memory, and outside a handler, a read sees the state as it is. -/
theorem State.viewFor_self {σ : State} {w : Half} (h : isFar σ.turn w = false ∨ σ.me.inIsr = false) :
    σ.viewFor w = σ := by
  refine if_neg ?_
  rcases h with h | h <;> simp [h]

/-- Without far writes from before the interrupt nothing lands. -/
theorem State.landOld_self {σ : State} {c : CoreId} (h : (σ.core c).farq.any (·.old) = false) : σ.landOld c = σ := by
  have hnone : ∀ e ∈ (σ.core c).farq, e.old = false := by simpa using h
  have hfilter : (σ.core c).farq.filter (·.old) = [] := by simpa using hnone
  have hkeep : (σ.core c).farq.filter (fun e => !e.old) = (σ.core c).farq := by simpa using hnone
  unfold State.landOld
  dsimp only
  rw [hfilter]
  cases c
  · exact congrArg (fun q => { σ with core0 := { σ.core0 with farq := q } }) hkeep
  · exact congrArg (fun q => { σ with core1 := { σ.core1 with farq := q } }) hkeep

/-- The marks of a read: the far writes land that it must see, and free values may be drawn. -/
theorem commitAll_readMarks (σ : State) (w : Half) (m : Nat) :
    ∃ n, commitAll (readMarks σ w m) σ = { σ.viewFor w with free := n } := by
  unfold readMarks
  rw [commitAll_append]
  have hland : commitAll (if σ.me.inIsr && isFar σ.turn w && σ.me.farq.any (·.old) then [.land] else []) σ =
      σ.viewFor w := by
    unfold State.viewFor
    cases hview : σ.me.inIsr && isFar σ.turn w
    case false => rfl
    cases hold : σ.me.farq.any (·.old)
    case false => exact (State.landOld_self hold).symm
    case true => rfl
  rw [hland]
  split
  · exact ⟨_, rfl⟩
  · exact ⟨_, rfl⟩

/-! ### The words that a read gives -/

/-- A word read is the memory's or one of the core's own pending writes (20_memory.md R109). -/
theorem State.readOne_mem (σ : State) (w : Half) (draw : Nat) : σ.readOne w draw ∈ readable σ w := by
  unfold State.readOne readable
  split
  · exact List.mem_cons_self
  · have hlt : Config.freeChoice draw % ((σ.pendingAt w).length + 1) < (σ.xy w :: σ.pendingAt w).length :=
      Nat.mod_lt _ (Nat.succ_pos _)
    rw [List.getD_eq_getElem _ _ hlt]
    exact List.getElem_mem hlt

theorem wp_memRead128 (σ : State) (port : Nat) (w : Half) {j : Nat} (hj : j < 4) :
    wp (memRead128 σ port w) j ∈ readable (σ.viewFor w) (w + BitVec.ofNat 16 j) := by
  have hword : wp (memRead128 σ port w) j =
      (σ.viewFor w).readOne (w + BitVec.ofNat 16 j) (8 * σ.free + 4 * port + j) :=
    wp_map4w (fun j => (σ.viewFor w).readOne (w + BitVec.ofNat 16 j) (8 * σ.free + 4 * port + j)) j hj
  rw [hword]
  exact State.readOne_mem _ _ _

theorem wp_memRead64 (σ : State) (port : Nat) (w : Half) {j : Nat} (hj : j < 2) :
    wp (memRead64 σ port w) j ∈ readable (σ.viewFor w) (w + BitVec.ofNat 16 j) := by
  have hword : wp (memRead64 σ port w) j =
      (σ.viewFor w).readOne (w + BitVec.ofNat 16 j) (8 * σ.free + 4 * port + j) :=
    wp_map2w (fun j => (σ.viewFor w).readOne (w + BitVec.ofNat 16 j) (8 * σ.free + 4 * port + j)) j hj
  rw [hword]
  exact State.readOne_mem _ _ _

/-- The low words of an even register are those of its 64-bit view (10_state.md R25). -/
theorem Core.wp_q_eq_wp_d (k : Core) {n : Reg} (hn : quadOk n = true) {j : Nat} (hj : j < 2) :
    wp (k.q n) j = wp (k.d n) j := by
  rw [k.q_eq_d_append_d hn]
  apply BitVec.eq_of_getLsbD_eq
  intro i hi
  simp only [wp, BitVec.getLsbD_extractLsb', BitVec.getLsbD_append]
  rw [if_pos (by omega)]

/-! ### A load -/

/-- What a load leaves in a core: the words read at w, in R[n].D or R[n].Q (40_moves.md R184). -/
def Core.loaded (σ : State) (port : Nat) (n : Reg) (u : Bool) (w : Half) (k : Core) : Core :=
  if u then k.setQ n (memRead128 σ port w) else k.setD n (memRead64 σ port w)

section
variable (σ : State) (port : Nat) {n : Reg} (u : Bool) (w : Half) (k : Core)

theorem Core.loaded_eq : k.loaded σ port n u w = { k with rows := (k.loaded σ port n u w).rows } := by
  cases u <;> rfl

theorem Core.wp_loaded (hn : quadOk n = true) {j : Nat} (hj : j < if u then 4 else 2) :
    wp ((k.loaded σ port n u w).q n) j ∈ readable (σ.viewFor w) (w + BitVec.ofNat 16 j) := by
  cases u
  case true =>
    rw [Core.loaded, if_pos rfl, Core.q_setQ_same]
    exact wp_memRead128 σ port w hj
  case false =>
    rw [Core.loaded, if_neg Bool.false_ne_true, Core.wp_q_eq_wp_d _ hn hj, Core.d_setD_same]
    exact wp_memRead64 σ port w hj

theorem Core.unit_loaded {a : BitVec 7} (h : (unitMask n (if u then .w128 else .w64)).getLsbD a.toNat = false) :
    (k.loaded σ port n u w).unit a = k.unit a := by
  cases u
  case true => exact k.unit_setQ n _ a h
  case false => exact k.unit_setD n _ a h

end

/-- The count of free values drawn stands beside the cores. -/
theorem State.onMe_withFree (σ : State) (f : Core → Core) (n : Nat) :
    State.onMe { σ with free := n } f = { σ.onMe f with free := n } := by
  obtain ⟨_, _, _, _, _, _, _, _, _, _, turn, _, _, _, _⟩ := σ
  cases turn <;> rfl

theorem commitAll_loadInto (σ : State) (port : Nat) (n : Reg) (u : Bool) (w : Half) :
    ∃ f, commitAll (loadInto σ port n u w) σ =
      { (σ.viewFor w).onMe (Core.loaded σ port n u w) with free := f } := by
  obtain ⟨f, hf⟩ := commitAll_readMarks σ w (wordsOf u)
  refine ⟨f, ?_⟩
  rw [loadInto, commitAll_append, hf, ← State.onMe_withFree]
  cases u <;> rfl

/-! ### The update of the pointer -/

/-- An update by 0 is no update. -/
theorem lowSum_zero (p : Word) : lowSum p 0 = p := by
  refine (congrArg (p.extractLsb' 16 16 ++ ·) (BitVec.add_zero _)).trans ?_
  exact (extract_halves p 16).trans BitVec.extractLsb'_eq_self

theorem Core.getA_setA_same (k : Core) (a : BitVec 3) (v : Word) : (k.setA a v).getA a = v := by
  simp [Core.getA, Core.setA]

theorem Core.getA_setA_ne (k : Core) {a c : BitVec 3} (v : Word) (h : c ≠ a) : (k.setA a v).getA c = k.getA c := by
  have hne : a.toNat ≠ c.toNat := fun e => h (BitVec.eq_of_toNat_eq e).symm
  simp [Core.getA, Core.setA, Vector.getElem_set_ne, hne]

/-- The pointer p is what the register rc holds in every core with the pointers of `k`. -/
def IsPointer (k : Core) (rc : CReg) (p : Word) : Prop :=
  ∀ k' : Core, k'.a = k.a → k'.ptrT = k.ptrT → k'.setCtl rc p = k'

theorem isPointer_a (k : Core) (a : BitVec 3) : IsPointer k (.a a) (k.getA a) := by
  intro k' ha _
  have hself : k'.a.set a.toNat (k'.a[a.toNat]'a.isLt) a.isLt = k'.a := Vector.set_getElem_self _
  rw [Core.getA, Core.setCtl, Core.setA, ← ha, hself]

theorem isPointer_ptrT (k : Core) : IsPointer k .ptrT k.ptrT := by
  intro k' _ ht
  rw [Core.setCtl, ← ht]

/-- The pointer register takes its update, also where the mode gives none. -/
theorem commitAll_pointerWrite {ρ : State} {rc : CReg} {p : Word} {act : Action} {m : Nat} {offset : Half}
    (hkeep : ρ.me.setCtl rc p = ρ.me) : commitAll (pointerWrite rc p act m offset) ρ =
      ρ.onMe fun k => k.setCtl rc (lowSum p (gain act m offset)) := by
  unfold pointerWrite
  split
  · rename_i hact
    subst hact
    rw [show gain .noUpdate m offset = 0 from rfl, lowSum_zero]
    exact ρ.onMe_self.symm.trans (ρ.onMe_congr hkeep.symm)
  · rfl

/-- Two changes of the core whose turn it is that agree on it. -/
theorem State.eq_onMe_withFree {σ : State} {f g : Core → Core} {n : Nat} (h : f σ.me = g σ.me) :
    ({ σ.onMe f with free := n } : State) = { σ.onMe g with free := n } := by
  rw [σ.onMe_congr h]

/-- A load through a pointer that the spec lets be made: the core it leaves, the words of the register, the units it
keeps, and nothing changed elsewhere (40_moves.md R181, R183). -/
theorem exec_load {σ : State} {x : Instr} {rc : CReg} {p : Word} {act : Action} {offset : Half} {port : Nat} {n : Reg}
    {u : Bool} {w : Half} (hw : w = p.extractLsb' 0 16)
    (hx : exec x σ = solo (throughPointer σ rc p act (wordsOf u) offset (loadInto σ port n u)) σ)
    (hact : act ≠ .unknown) (hreach : Reaches σ p (wordsOf u)) (hp : IsPointer σ.me rc p) (hn : quadOk n = true) :
    ∃ τ, exec x σ = .next τ ∧
      τ.me = ((σ.viewFor w).me.loaded σ port n u w).setCtl rc (lowSum p (gain act (wordsOf u) offset)) ∧
      (∀ j < wordsOf u, wp (τ.me.q n) j ∈ readable (σ.viewFor w) (w + BitVec.ofNat 16 j)) ∧
      (∀ b, readByte τ.mem b = readByte (σ.viewFor w).mem b) ∧
      (∀ a : BitVec 7, (unitMask n (if u then .w128 else .w64)).getLsbD a.toNat = false →
        τ.me.unit a = σ.me.unit a) ∧
      τ = { (σ.viewFor w).onMe fun _ => τ.me with free := τ.free } := by
  obtain ⟨f, hf⟩ := commitAll_loadInto σ port n u w
  have hloaded : State.me { (σ.viewFor w).onMe (Core.loaded σ port n u w) with free := f } =
      (σ.viewFor w).me.loaded σ port n u w := State.me_onMe _ _
  have hkeep : ((σ.viewFor w).me.loaded σ port n u w).setCtl rc p = (σ.viewFor w).me.loaded σ port n u w := by
    rw [Core.loaded_eq, State.me_viewFor]
    exact hp _ rfl rfl
  let load (k : Core) : Core := (k.loaded σ port n u w).setCtl rc (lowSum p (gain act (wordsOf u) offset))
  have hme : State.me { (σ.viewFor w).onMe load with free := f } = load (σ.viewFor w).me := State.me_onMe _ _
  have hrows : (load (σ.viewFor w).me).rows = ((σ.viewFor w).me.loaded σ port n u w).rows := Core.rows_setCtl _ _ _
  refine ⟨{ (σ.viewFor w).onMe load with free := f }, ?_, hme, fun j hj => ?_, fun b => ?_, fun a ha => ?_, ?_⟩
  · rw [hx, throughPointer_reaches (wordsOf_le u) hact hreach, ← hw]
    refine congrArg Host.Outcome.next ?_
    rw [commitAll_append, hf, commitAll_pointerWrite (by rw [hloaded, hkeep]), State.onMe_withFree, State.onMe_onMe]
  · have hq : (load (σ.viewFor w).me).q n = ((σ.viewFor w).me.loaded σ port n u w).q n := by
      rw [Core.q, Core.row, hrows]; rfl
    rw [hme, hq]
    exact Core.wp_loaded σ port u w _ hn hj
  · rw [State.mem_onMe]
  · rw [hme, Core.unit_of_rows hrows, Core.unit_loaded σ port u w _ ha]
    exact Core.unit_of_rows (by rw [State.me_viewFor]) a
  · rw [hme]
    exact State.eq_onMe_withFree rfl

theorem exec_moveX (r : BitVec 4) (u : Bool) (mode a : BitVec 3) (de : Bool) (σ : State) :
    exec (.move9aX r u mode a de) σ = solo (moveX σ r u mode a de) σ := rfl

/-- The X registers are even (40_moves.md R181). -/
theorem quadOk_x (r : BitVec 4) : quadOk (r ++ 0#1) = true := by
  revert r
  decide

/-- Settles O34: the load through A[a], and what it leaves alone. -/
theorem loadX : Obligations.LoadX := by
  intro σ r u mode a de act m p w seen hde hact hreach
  have hx : exec (.move9aX r u mode a de) σ =
      solo (throughPointer σ (.a a) p act (wordsOf u) (σ.me.getI a) (loadInto σ 0 (r ++ 0#1) u)) σ := by
    rw [exec_moveX, moveX, if_neg hde]
  obtain ⟨τ, hnext, hme, hwords, hmem, hunits, hrest⟩ :=
    exec_load (w := w) rfl hx hact hreach (isPointer_a σ.me a) (quadOk_x r)
  rw [Core.loaded_eq] at hme
  refine ⟨τ, hnext, hwords, ?_, hmem, State.viewFor_self, hunits, fun c hc => ?_, ?_⟩
  · rw [hme]
    exact Core.getA_setA_same _ a _
  · rw [hme, State.me_viewFor]
    exact Core.getA_setA_ne _ _ hc
  · exact hrest.trans (State.eq_onMe_withFree (by rw [hme]; rfl))

/-- Settles O36: the load through AT into register 0, once the YM restriction is met. -/
theorem loadY : Obligations.LoadY := by
  intro σ code u x act m p w seen hxy hact hfree hreach
  have hx : exec x σ = solo (throughPointer σ .ptrT p act (wordsOf u) σ.me.dt (loadInto σ 1 0 u)) σ := by
    rw [(fx_exec_moveY hxy).2, moveY_through hfree]
  obtain ⟨τ, hnext, hme, hwords, hmem, hunits, hrest⟩ :=
    exec_load (w := w) rfl hx hact hreach (isPointer_ptrT σ.me) rfl
  rw [Core.loaded_eq] at hme
  refine ⟨τ, hnext, hwords, ?_, hmem, State.viewFor_self, hunits, ?_⟩
  · rw [hme]
    rfl
  · exact hrest.trans (State.eq_onMe_withFree (by rw [hme]; rfl))

/-! ### A store -/

/-- The writes that store a list of words. -/
def wordWrites (l : List FarWrite) : List Write := l.map fun e => .word e.addr e.val

/-- Words stored in near memory are written at once, in order (20_memory.md R110). -/
theorem commitAll_near : ∀ {l : List FarWrite} {σ : State}, (∀ e ∈ l, isFar σ.turn e.addr = false) →
    commitAll (wordWrites l) σ = landAll l σ
  | [], _, _ => rfl
  | e :: rest, σ, h => by
    have hfirst : commit (.word e.addr e.val) σ = σ.setXy e.addr e.val :=
      if_neg (by rw [h e List.mem_cons_self]; exact Bool.false_ne_true)
    change commitAll (wordWrites rest) (commit (.word e.addr e.val) σ) = _
    rw [hfirst]
    exact commitAll_near fun e' he' => h e' (List.mem_cons_of_mem e he')

/-- One word stored in far memory joins the queue (20_memory.md R109). -/
theorem commit_far {σ : State} {e : FarWrite} (hfar : isFar σ.turn e.addr = true) (hold : e.old = false) :
    commit (.word e.addr e.val) σ = σ.onMe fun k => { k with farq := k.farq ++ [e] } := by
  obtain ⟨a, v, old⟩ := e
  subst hold
  exact if_pos hfar

/-- Words stored in far memory join the queue, in order. -/
theorem commitAll_far (l : List FarWrite) {σ : State} (h : ∀ e ∈ l, isFar σ.turn e.addr = true ∧ e.old = false) :
    commitAll (wordWrites l) σ = σ.onMe fun k => { k with farq := k.farq ++ l } := by
  induction l generalizing σ with
  | nil =>
    simp only [List.append_nil]
    exact σ.onMe_self.symm
  | cons e rest ih =>
    obtain ⟨hfar, hold⟩ := h e List.mem_cons_self
    change commitAll (wordWrites rest) (commit (.word e.addr e.val) σ) = _
    rw [commit_far hfar hold, ih fun e' he' => by rw [State.turn_onMe]; exact h e' (List.mem_cons_of_mem e he'),
      State.onMe_onMe]
    simp only [List.append_assoc, List.singleton_append]

/-- Words written change no byte outside them. -/
theorem landAll_readByte (l : List FarWrite) {σ : State} {b : Nat} (hwf : Memory.wf σ.mem = true)
    (h : ∀ e ∈ l, ¬bytesOf e.addr 1 b) : readByte (landAll l σ).mem b = readByte σ.mem b := by
  induction l generalizing σ with
  | nil => rfl
  | cons e rest ih =>
    refine (ih (σ.setXy_wf e.addr e.val hwf) fun e' he' => h e' (List.mem_cons_of_mem e he')).trans ?_
    exact σ.readByte_setXy_of_not_bytesOf e.addr e.val hwf (h e List.mem_cons_self)

theorem landAll_xy_of_ne (l : List FarWrite) {σ : State} {w : Half} (hwf : Memory.wf σ.mem = true)
    (h : ∀ e ∈ l, w ≠ e.addr) : (landAll l σ).xy w = σ.xy w := by
  induction l generalizing σ with
  | nil => rfl
  | cons e rest ih =>
    refine (ih (σ.setXy_wf e.addr e.val hwf) fun e' he' => h e' (List.mem_cons_of_mem e he')).trans ?_
    exact (σ.xy_setXy _ _ _ hwf).trans (if_neg (h e List.mem_cons_self))

/-- Words written to different addresses all read back. -/
theorem landAll_xy (l : List FarWrite) {σ : State} (hwf : Memory.wf σ.mem = true) (hd : (l.map (·.addr)).Nodup)
    {e : FarWrite} (he : e ∈ l) : (landAll l σ).xy e.addr = e.val := by
  induction l generalizing σ with
  | nil => cases he
  | cons first rest ih =>
    obtain ⟨hnew, hd'⟩ := List.nodup_cons.mp hd
    have hwf' := σ.setXy_wf first.addr first.val hwf
    rcases List.mem_cons.mp he with rfl | he
    · refine (landAll_xy_of_ne rest hwf' fun f hf heq => hnew ?_).trans ((σ.xy_setXy _ _ _ hwf).trans (if_pos rfl))
      exact List.mem_map.mpr ⟨f, hf, heq.symm⟩
    · exact ih hwf' hd' he

/-- The words of register n from word address w on, as a store leaves them. -/
def storedAt (σ : State) (n : Reg) (w : Half) (m : Nat) : List FarWrite :=
  (List.range m).map fun j => { addr := w + BitVec.ofNat 16 j, val := wp (σ.me.q n) j, old := false }

theorem storeFrom_eq (σ : State) {n : Reg} (hn : quadOk n = true) (u : Bool) (w : Half) :
    storeFrom σ n u w = wordWrites (storedAt σ n w (wordsOf u)) := by
  have hzero : w + BitVec.ofNat 16 0 = w := BitVec.add_zero w
  cases u
  case true =>
    change _ = [Write.word (w + BitVec.ofNat 16 0) _, _, _, _]
    rw [hzero]
    rfl
  case false =>
    have h0 := σ.me.wp_q_eq_wp_d hn (j := 0) (by decide)
    have h1 := σ.me.wp_q_eq_wp_d hn (j := 1) (by decide)
    change _ = [Write.word (w + BitVec.ofNat 16 0) (wp (σ.me.q n) 0), .word _ (wp (σ.me.q n) 1)]
    rw [hzero, h0, h1]
    rfl

section
variable {w : Half} {m : Nat} (hpage : w.toNat % 0x2000 + m ≤ 0x2000)
include hpage

/-- The words of an access within one page lie in one segment (20_memory.md R103, R104). -/
theorem isFar_within_page (c : CoreId) {j : Nat} (hj : j < m) : isFar c (w + BitVec.ofNat 16 j) = isFar c w := by
  have hbit (x : Half) : x.getLsbD 15 = decide (0x8000 ≤ x.toNat) :=
    (BitVec.msb_eq_getLsbD_last x).symm.trans (BitVec.msb_eq_decide x)
  have hw := w.isLt
  have hsum : (w + BitVec.ofNat 16 j).toNat = w.toNat + j := by
    rw [BitVec.toNat_add, BitVec.toNat_ofNat]
    omega
  unfold isFar
  rw [hbit, hbit, hsum]
  congr 2
  simp only [eq_iff_iff]
  omega

theorem nodup_storedAt (σ : State) (n : Reg) : ((storedAt σ n w m).map (·.addr)).Nodup := by
  rw [storedAt, List.map_map]
  refine List.Nodup.map_on (fun i hi j hj heq => ?_) List.nodup_range
  have hofNat : BitVec.ofNat 16 i = BitVec.ofNat 16 j := BitVec.add_right_inj w |>.mp heq
  have hnat := congrArg BitVec.toNat hofNat
  simp only [BitVec.toNat_ofNat] at hnat
  have := List.mem_range.mp hi
  have := List.mem_range.mp hj
  omega

end

/-- What a property of each stored word asks, word by word. -/
theorem forall_mem_storedAt {σ : State} {n : Reg} {w : Half} {m : Nat} {P : FarWrite → Prop} :
    (∀ e ∈ storedAt σ n w m, P e) ↔
      ∀ j < m, P { addr := w + BitVec.ofNat 16 j, val := wp (σ.me.q n) j, old := false } := by
  simp [storedAt]

/-- A store through a pointer that the spec lets be made: the words, then the pointer's update (40_moves.md R181,
R183). -/
theorem exec_store {σ : State} {x : Instr} {rc : CReg} {p : Word} {act : Action} {offset : Half} {n : Reg} {u : Bool}
    (hx : exec x σ = solo (throughPointer σ rc p act (wordsOf u) offset (storeFrom σ n u)) σ)
    (hact : act ≠ .unknown) (hreach : Reaches σ p (wordsOf u)) (hp : IsPointer σ.me rc p) (hn : quadOk n = true)
    {ρ : State} (hρ : commitAll (wordWrites (storedAt σ n (p.extractLsb' 0 16) (wordsOf u))) σ = ρ)
    (hsame : SameButStores σ ρ) :
    exec x σ = .next (ρ.onMe fun k => k.setCtl rc (lowSum p (gain act (wordsOf u) offset))) := by
  have hkeep : ρ.me.setCtl rc p = ρ.me := by
    rw [hsame.me]
    exact hp _ rfl rfl
  rw [hx, throughPointer_reaches (wordsOf_le u) hact hreach, storeFrom_eq σ hn]
  refine congrArg Host.Outcome.next ?_
  rw [commitAll_append, hρ, commitAll_pointerWrite hkeep]

/-- The update of A[a] after stores: nothing but the pointer, the far writes and memory differs. -/
theorem SameButStores.setA {σ ρ : State} (h : SameButStores σ ρ) (a : BitVec 3) (v : Word) :
    let τ := ρ.onMe fun k => k.setA a v
    τ = { σ.onMe fun k => { k with a := τ.me.a, farq := τ.me.farq } with mem := τ.mem } := by
  unfold SameButStores at h
  generalize ρ.me.farq = q, ρ.mem = m at h
  subst h
  obtain ⟨_, _, _, _, _, _, _, _, _, _, turn, _, _, _, _⟩ := σ
  cases turn <;> rfl

/-- Settles O35: near words are written at once, far words join the queue, then A[a] takes its update. -/
theorem storeX : Obligations.StoreX := by
  intro σ r u mode a de act m p w stored hwf hde hact hreach
  have hpage : w.toNat % 0x2000 + m ≤ 0x2000 := by
    rw [toNat_low_mod]
    exact hreach.2.1
  have hseg (j : Nat) (hj : j < m) : isFar σ.turn (w + BitVec.ofNat 16 j) = isFar σ.turn w :=
    isFar_within_page hpage σ.turn hj
  let ρ : State := commitAll (wordWrites stored) σ
  have hnear (hn : isFar σ.turn w = false) : ρ = landAll stored σ :=
    commitAll_near (forall_mem_storedAt.mpr fun j hj => (hseg j hj).trans hn)
  have hfar (hf : isFar σ.turn w = true) : ρ = σ.onMe fun k => { k with farq := k.farq ++ stored } :=
    commitAll_far stored (forall_mem_storedAt.mpr fun j hj => ⟨(hseg j hj).trans hf, rfl⟩)
  have hsame : SameButStores σ ρ := by
    cases h : isFar σ.turn w
    case false =>
      rw [hnear h, landAll_eq]
      exact σ.sameButStores_withMem _
    case true =>
      rw [hfar h]
      exact σ.sameButStores_onMe _ _
  let τ : State := ρ.onMe fun k => k.setA a (lowSum p (gain act m (σ.me.getI a)))
  have hnext : exec (.move9aX r u mode a de) σ = .next τ := by
    refine exec_store ?_ hact hreach (isPointer_a σ.me a) (quadOk_x r) rfl hsame
    rw [exec_moveX, moveX, if_pos hde]
  have hme : τ.me = ρ.me.setA a (lowSum p (gain act m (σ.me.getI a))) := State.me_onMe _ _
  have hmem : τ.mem = ρ.mem := State.mem_onMe _ _
  refine ⟨τ, hnext, fun hn => ⟨fun j hj => ?_, fun b hb => ?_, ?_⟩, fun hf => ⟨fun b => ?_, ?_⟩, ?_, fun c hc => ?_,
    hsame.setA a _⟩
  · rw [State.xy, hmem, hnear hn]
    refine landAll_xy stored hwf (nodup_storedAt hpage σ (r ++ 0#1)) (e := ⟨_, _, false⟩) ?_
    exact List.mem_map.mpr ⟨j, List.mem_range.mpr hj, rfl⟩
  · rw [hmem, hnear hn]
    refine landAll_readByte stored hwf (forall_mem_storedAt.mpr fun j hj hin => hb ⟨j, hj, ?_⟩)
    exact (bytesOf_one _ b).mp hin
  · rw [hme, hnear hn, Core.farq_setA, landAll_me]
  · rw [hmem, hfar hf, State.mem_onMe]
  · rw [hme, hfar hf, Core.farq_setA, State.me_onMe]
  · rw [hme]
    exact Core.getA_setA_same _ a _
  · rw [hme, hsame.me]
    exact Core.getA_setA_ne _ _ hc

end Sys2Proof.Machine
end

section
/-! SUPPORT. NOP, the register move of format 9b, the return from an interrupt and the entry into one (40_moves.md R189;
41_control_and_changed_results.md R210..R212, R220; 60_exceptions.md R471..R473, R494). -/

namespace Sys2Proof.Machine

/-! ### NOP and the register move -/

/-- An instruction that writes nothing leaves the state as it is. -/
theorem exec_of_no_writes {x : Instr} {σ : State} (h : fx x σ = .ok []) : exec x σ = .next σ :=
  exec_next_of_fx h rfl

/-- Settles O33: no NOP writes anything, and the move writes one 64-bit or one 128-bit register. -/
theorem nopAndRegisterMove : Obligations.NopAndRegisterMove := by
  intro σ rs rd
  refine ⟨⟨⟨rfl, rfl⟩, exec_of_no_writes rfl⟩, ⟨⟨rfl, rfl⟩, exec_of_no_writes rfl⟩,
    ⟨⟨rfl, rfl⟩, exec_of_no_writes rfl⟩, ⟨⟨rfl, rfl⟩, exec_of_no_writes rfl⟩,
    ⟨⟨rfl, rfl⟩, exec_of_no_writes rfl⟩, ?double, ?quad⟩
  case double => exact yieldsD_of rfl rfl
  case quad =>
    rintro ⟨hs, hd⟩
    exact yieldsQ_of_needQuad (ns := [rs, rd]) rfl (by simp [hs, hd]) rfl

/-! ### The return from an interrupt -/

theorem Core.returnIsr_cons {k : Core} {p : Half} {rest : List Half} (h : k.pcstack = p :: rest) :
    k.returnIsr = { k with pc := p, pcstack := rest, inIsr := false } := by
  simp only [Core.returnIsr, h]

theorem Core.returnIsr_nil {k : Core} (h : k.pcstack = []) : k.returnIsr = k.stackFail := by
  simp only [Core.returnIsr, h]

/-- RTI with the condition "always" is the return. -/
theorem exec_rti_always {σ : State} {cc : BitVec 4} (h : cc = σ.cfg.ccAlways) :
    exec (.rti cc) σ = .next (σ.onMe Core.returnIsr) :=
  exec_next_of_fx (ws := [.leave]) (if_pos h) rfl

/-- Settles O45: a return pops the stack, or fails on an empty one; another condition is refused. -/
theorem returnFromInterrupt : Obligations.ReturnFromInterrupt := by
  intro σ cc
  refine ⟨fun hcc p rest hstack => ?popped, fun hcc hempty => ?empty, fun hcc => ?refused⟩
  case popped =>
    exact (exec_rti_always hcc).trans (congrArg Host.Outcome.next (σ.onMe_congr (Core.returnIsr_cons hstack)))
  case empty =>
    exact (exec_rti_always hcc).trans (congrArg Host.Outcome.next (σ.onMe_congr (Core.returnIsr_nil hempty)))
  case refused => exact exec_refused_of_fx (if_neg hcc)

/-! ### The entry into an interrupt -/

theorem mem_bitsOf {v : Word} {j : Nat} : j ∈ bitsOf v ↔ j < 32 ∧ v.getLsbD j = true := by
  simp [bitsOf]

theorem bitsOf_ne_nil {v : Word} (h : v ≠ 0) : bitsOf v ≠ [] := by
  intro hnil
  refine h (BitVec.eq_of_getLsbD_eq fun j hj => ?_)
  have hnot : j ∉ bitsOf v := hnil ▸ List.not_mem_nil
  simpa [mem_bitsOf, hj] using hnot

/-- The bit that is picked to be cleared is a pending one (60_exceptions.md R494). -/
theorem State.pickPending_mem (σ : State) {k : Core} (h : k.pending ≠ 0) : σ.pickPending k ∈ bitsOf k.pending := by
  have hlen : Config.freeChoice (8 * σ.free) % (bitsOf k.pending).length < (bitsOf k.pending).length :=
    Nat.mod_lt _ (List.length_pos_iff.mpr (bitsOf_ne_nil h))
  rw [State.pickPending, List.getD_eq_getElem _ _ hlen]
  exact List.getElem_mem hlen

/-- What the entry leaves in IRQR (60_exceptions.md R494). -/
def State.acceptedIrqr (σ : State) (k : Core) : Word :=
  if σ.cfg.irqrAutoclear then setBit k.irqr (σ.pickPending k) false else k.irqr

/-- The update of `takeInterrupt` clears the picked bit of IRQR or nothing. -/
theorem State.clearPicked_eq (σ : State) (k : Core) :
    (if σ.cfg.irqrAutoclear then { k with irqr := setBit k.irqr (σ.pickPending k) false } else k) =
      { k with irqr := σ.acceptedIrqr k } := by
  unfold State.acceptedIrqr
  split <;> rfl

theorem State.acceptedIrqr_of_keep {σ : State} (h : σ.cfg.irqrAutoclear = false) (k : Core) :
    σ.acceptedIrqr k = k.irqr := by
  simp [State.acceptedIrqr, h]

theorem State.getLsbD_acceptedIrqr {σ : State} (h : σ.cfg.irqrAutoclear = true) (k : Core) {j : Nat} (hj : j < 32) :
    (σ.acceptedIrqr k).getLsbD j = (k.irqr.getLsbD j && j != σ.pickPending k) := by
  rw [State.acceptedIrqr, if_pos h, getLsbD_setBit]
  by_cases hpick : j = σ.pickPending k
  · simp [hpick.symm, hj]
  · simp [hpick]

theorem Core.jsrIvar_of_room {k : Core} {depth : Nat} (h : k.pcstack.length < depth) :
    k.jsrIvar depth = { k with pcstack := k.pc :: k.pcstack, pc := k.ivar, inIsr := true,
                               farq := k.farq.map fun e => { e with old := true } } :=
  if_pos h

/-- A core that has entered its handler with room on the stack. -/
def State.inHandler (σ : State) (k : Core) : Core :=
  { k with
    dcsr := setBit k.dcsr 14 true, cntRun := if k.run then k.cntRun else 0, irqr := σ.acceptedIrqr k, pc := k.ivar,
    pcstack := k.pc :: k.pcstack, inIsr := true, farq := k.farq.map fun e => { e with old := true }, hist := [] }

/-- The entry of a core whose IVAR lies in PRAM and whose stack has room (41_control_and_changed_results.md R212). -/
theorem takeInterrupt_of_room {σ : State} (hivar : σ.me.ivar.toNat ≤ 0x1FFF)
    (hroom : σ.me.pcstack.length < σ.cfg.stackDepth) :
    takeInterrupt σ = .next { σ.onMe σ.inHandler with
      free := if σ.cfg.irqrAutoclear then σ.free + 1 else σ.free } := by
  rw [takeInterrupt, if_neg (Nat.not_lt.mpr hivar)]
  have hcore :=
    (congrArg (Core.jsrIvar σ.cfg.stackDepth) (σ.clearPicked_eq σ.me.startRun)).trans (Core.jsrIvar_of_room hroom)
  exact congrArg Host.Outcome.next (State.eq_onMe_withFree (congrArg (fun k : Core => { k with hist := [] }) hcore))

/-- Settles O46: the entered core field by field, under CFG.IRQR_AUTOCLEAR with the picked bit. -/
theorem interruptEntry : Obligations.InterruptEntry := by
  intro σ hpending hivar hroom
  refine ⟨_, takeInterrupt_of_room hivar hroom, ?_⟩
  generalize (if σ.cfg.irqrAutoclear then σ.free + 1 else σ.free) = n
  have hme : State.me { σ.onMe σ.inHandler with free := n } = σ.inHandler σ.me := σ.me_onMe _
  rw [hme]
  refine ⟨?run, fun j hj => ?dcsr, rfl, rfl, rfl, fun hkeep => σ.acceptedIrqr_of_keep hkeep _, fun hclear => ?cleared,
    ?farq, State.eq_onMe_withFree rfl⟩
  case run => exact (getLsbD_setBit _ _ _ _).trans (if_pos (by decide))
  case dcsr => exact (getLsbD_setBit _ _ _ _).trans (if_neg fun ⟨h14, _⟩ => hj h14)
  case cleared =>
    obtain ⟨hlt, hbit⟩ := mem_bitsOf.mp (σ.pickPending_mem hpending)
    exact ⟨_, hlt, hbit, fun j hj => State.getLsbD_acceptedIrqr hclear _ hj⟩
  case farq => exact List.map_map

end Sys2Proof.Machine
end

section
/-! SUPPORT. The float32 instructions: which parts of T and S meet, and in which order (42_fp.md R231..R237). -/

namespace Sys2Proof.Machine

/-- An instruction whose only write is a 64-bit register made of two words. -/
theorem yieldsD_two32 {x : Instr} {σ : State} {rd : Reg} {x1 x0 : Word}
    (hx : exec x σ = .next (σ.onMe fun k => k.setD rd (two32 x1 x0))) :
    YieldsD x σ rd fun v => wp v 1 = x1 ∧ wp v 0 = x0 :=
  yieldsD_of hx (wp_two32 x1 x0)

/-- An instruction with an even `.Q` destination, its only write, made of four words. -/
theorem yieldsQ_four32 {x : Instr} {σ : State} {rd : Reg} {x3 x2 x1 x0 : Word} (hd : quadOk rd = true)
    (hx : exec x σ = solo (needQuad [rd] (.ok [.q rd (four32 x3 x2 x1 x0)])) σ) :
    YieldsQ x σ rd fun v => wp v 3 = x3 ∧ wp v 2 = x2 ∧ wp v 1 = x1 ∧ wp v 0 = x0 :=
  yieldsQ_of_needQuad hx (by simpa using hd) (wp_four32 x3 x2 x1 x0)

/-- Settles O8: each instruction packs the float32 results of its parts, two words or, for FASX and FASXS, four. -/
theorem floatingPoint : Obligations.FloatingPoint := by
  intro σ rt rs rd
  refine ⟨⟨⟨rfl, rfl⟩, ?fm2⟩, ⟨⟨rfl, rfl⟩, ?fms2⟩, ⟨rfl, rfl⟩, ⟨rfl, rfl⟩, fun hd => ⟨?fasx, ?fasxs⟩,
    ⟨⟨rfl, rfl⟩, ?fsa⟩, ⟨⟨rfl, rfl⟩, ?fax⟩, ⟨rfl, rfl⟩, ?fsx⟩
  case fm2 | fms2 | fsa | fax | fsx => exact yieldsD_two32 rfl
  case fasx | fasxs => exact yieldsQ_four32 hd rfl

end Sys2Proof.Machine
end

section
/-! SUPPORT. The multiplier without accumulation: integer products fit their destinations, and fractional products and
sums of products are computed exactly before the one rounding (43_mul_fixed.md R246, R247, R249, R252..R263). -/

namespace Sys2Proof.Machine

/-! ### Exact products -/

/-- A product of two signed n-bit numbers fits 2n bits, as ML2, M4 and M2 write it (R247, R262, R263). -/
theorem toInt_wrap_signed_mul {n : Nat} (hn : 0 < n) (t s : BitVec n) :
    (wrap (n * 2) (t.toInt * s.toInt)).toInt = t.toInt * s.toInt := by
  have hpow : (2 : Int) ^ (n * 2 - 2) < 2 ^ (n * 2 - 1) := pow_lt_pow_right₀ (by decide) (by omega)
  have hlo : -2 ^ (n * 2 - 2) ≤ t.toInt * s.toInt := BitVec.le_toInt_mul_toInt
  have hhi : t.toInt * s.toInt ≤ 2 ^ (n * 2 - 2) := BitVec.toInt_mul_toInt_le
  exact toInt_wrap (by omega) (by omega) (by omega)

/-- A product of two unsigned words fits 64 bits, as UML writes it (R249). -/
theorem toNat_wrap_unsigned_mul (t s : Word) : (wrap 64 ((t.toNat : Int) * s.toNat)).toNat = t.toNat * s.toNat := by
  have hlt : t.toNat * s.toNat < 2 ^ 64 := (Nat.mul_lt_mul'' t.isLt s.isLt).trans_eq (by norm_num)
  rw [wrap, ← Int.natCast_mul, BitVec.ofInt_natCast, BitVec.toNat_ofNat, Nat.mod_eq_of_lt hlt]

/-- Settles O9: every product fits the part of the destination that it is wrapped to. -/
theorem integerProducts : Obligations.IntegerProducts := by
  intro σ rt rs rd
  refine ⟨⟨rfl, rfl⟩, ⟨rfl, rfl⟩, fun hd => ⟨?ml2, ?m4⟩, ⟨⟨rfl, rfl⟩, ?uml⟩, ⟨rfl, rfl⟩, ?m2⟩
  case ml2 =>
    refine yieldsQ_of_needQuad rfl (by simpa using hd) ⟨?_, ?_⟩
    · rw [two64, extract_high]
      exact toInt_wrap_signed_mul (by decide) _ _
    · rw [two64, extract_low]
      exact toInt_wrap_signed_mul (by decide) _ _
  case m4 =>
    refine yieldsQ_of_needQuad rfl (by simpa using hd) fun i hi => ?_
    rw [sw, wp_map4w _ i hi]
    exact toInt_wrap_signed_mul (by decide) _ _
  case uml => exact yieldsD_of rfl (toNat_wrap_unsigned_mul _ _)
  case m2 =>
    refine yieldsD_of rfl fun i hi => ?_
    rw [sw, wp_map2w _ i hi]
    exact toInt_wrap_signed_mul (by decide) _ _

/-! ### Complex products -/

/-- An instruction whose only write is a 32-bit register made of two halfwords. -/
theorem yieldsL_two16 {x : Instr} {σ : State} {rd : Reg} {x1 x0 : Half}
    (hx : exec x σ = .next (σ.onMe fun k => k.setL rd (two16 x1 x0))) :
    YieldsL x σ rd fun v => hp v 1 = x1 ∧ hp v 0 = x0 :=
  yieldsL_of hx (hp_two16 x1 x0)

/-- An instruction whose only write is a 64-bit register made of two complex numbers, each with its real part upper. -/
theorem yieldsD_complexPair {x : Instr} {σ : State} {rd : Reg} {re im : Nat → Half}
    (hx : exec x σ = .next (σ.onMe fun k => k.setD rd (four16 (re 1) (im 1) (re 0) (im 0)))) :
    YieldsD x σ rd fun v => ∀ k < 2, hp v (2 * k + 1) = re k ∧ hp v (2 * k) = im k := by
  obtain ⟨h3, h2, h1, h0⟩ := hp_four16 (re 1) (im 1) (re 0) (im 0)
  refine yieldsD_of hx fun k hk => ?_
  match k, hk with
  | 0, _ => exact ⟨h1, h0⟩
  | 1, _ => exact ⟨h3, h2⟩

/-- Settles O11: each instruction packs the rounded real and imaginary parts of one product or of two. -/
theorem fractionalComplex : Obligations.FractionalComplex := by
  intro σ rt rs rd
  refine ⟨⟨⟨rfl, rfl⟩, ?mfx2⟩, ⟨⟨rfl, rfl⟩, ?mfxc2⟩, ⟨⟨rfl, rfl⟩, ?mfx⟩, ⟨rfl, rfl⟩, ?mfxc⟩
  case mfx2 | mfxc2 => exact yieldsD_complexPair rfl
  case mfx | mfxc => exact yieldsL_two16 rfl

/-! ### Sums of products -/

/-- A rounded sum of products of parts: the sum is exact, rounded once and wrapped (R246). -/
theorem fsum16_sumProd {m n : Nat} (r : Rounding) (t : BitVec m) (s : BitVec n) (start count : Nat) :
    fsum16 r (sumProd t s start count) =
      BitVec.ofInt 16 (roundBy r (∑ i ∈ Finset.range count, sh t (start + i) * sh s (start + i)) 15) := by
  rw [sumProd_eq]
  rfl

/-- With even `.Q` operands an instruction does what its writes alone do. -/
theorem exec_of_needQuad {x : Instr} {σ : State} {ns : List Reg} {e : Effect} {o : Host.Outcome State Fault Refusal}
    (hx : exec x σ = solo (needQuad ns e) σ) (hns : ns.all quadOk = true) (he : solo e σ = o) : exec x σ = o := by
  rw [hx, needQuad_ok hns, he]

/-- Settles O12: each part written is the rounded sum of the products of its own parts of T and S. -/
theorem fractionalSums : Obligations.FractionalSums := by
  intro σ rt rs rd
  refine ⟨⟨rfl, rfl⟩, ⟨rfl, rfl⟩, ⟨rfl, rfl⟩, fun hq => ?quads, ⟨⟨rfl, rfl⟩, ?mfa41⟩, ⟨⟨rfl, rfl⟩, ?mfa22⟩,
    ⟨rfl, rfl⟩, ?mfa21⟩
  case quads =>
    have hns : [rt, rs].all quadOk = true := by simpa using hq
    refine ⟨?mfa81, ?mfa42, ?mfa24⟩
    case mfa81 => exact yieldsH_of (exec_of_needQuad rfl hns rfl) (fsum16_sumProd _ _ _ _ _)
    case mfa42 =>
      simp only [← fsum16_sumProd]
      exact yieldsL_two16 (exec_of_needQuad rfl hns rfl)
    case mfa24 =>
      exact yieldsD_of (exec_of_needQuad rfl hns rfl) fun i hi => (hp_map4h _ i hi).trans (fsum16_sumProd _ _ _ _ _)
  case mfa41 => exact yieldsH_of rfl (fsum16_sumProd _ _ _ _ _)
  case mfa22 =>
    simp only [← fsum16_sumProd]
    exact yieldsL_two16 rfl
  case mfa21 =>
    refine yieldsH_of rfl ((fsum16_sumProd _ _ _ _ _).trans ?_)
    simp only [Nat.zero_add]

end Sys2Proof.Machine
end

section
/-! SUPPORT. The operand forms of the accumulator group: the one-hot selector, the writes that clear accumulators, the
lists of 64-bit accumulations (44_mac.md R275..R278). -/

namespace Sys2Proof.Machine

/-! ### Selectors -/

theorem popcount_eq_count {w : Nat} (v : BitVec w) (n : Nat) : popcount v n = Nat.count (v.getLsbD · = true) n := by
  induction n with
  | zero => rfl
  | succ n ih => rw [popcount, ih, Nat.count_succ]

/-- A halfword with one bit set is a power of two. -/
theorem eq_twoPow_of_popcount {m : Half} (h : popcount m 16 = 1) : ∃ k < 16, m = BitVec.twoPow 16 k := by
  rw [popcount_eq_count, Nat.count_eq_card_filter_range, Finset.card_eq_one] at h
  obtain ⟨k, hk⟩ := h
  have hbit (i : Nat) (hi : i < 16) : m.getLsbD i = true ↔ i = k := by
    simpa [hi] using Finset.ext_iff.mp hk i
  have hk16 : k < 16 :=
    List.mem_range.mp (Finset.mem_filter.mp (hk ▸ Finset.mem_singleton_self k)).1
  refine ⟨k, hk16, BitVec.eq_of_getLsbD_eq fun i hi => Bool.eq_iff_iff.mpr ?_⟩
  rw [hbit i hi, BitVec.getLsbD_twoPow]
  simp [hk16, eq_comm]

theorem onehot_twoPow : ∀ n < 16, onehot (BitVec.twoPow 16 n) = some n := by
  decide

/-- A selector names an accumulator exactly when that bit alone is set (44_mac.md R275). -/
theorem onehot_eq_some_iff {m : Half} {n : Nat} : onehot m = some n ↔ n < 16 ∧ m = BitVec.twoPow 16 n := by
  constructor
  · intro h
    have hone : popcount m 16 = 1 := by
      by_contra hno
      simp [onehot, hno] at h
    obtain ⟨k, hk, rfl⟩ := eq_twoPow_of_popcount hone
    obtain rfl : k = n := Option.some.inj ((onehot_twoPow k hk).symm.trans h)
    exact ⟨hk, rfl⟩
  · rintro ⟨hn, rfl⟩
    exact onehot_twoPow n hn

section
variable {x : Instr} {σ : State} {count : Nat} {m : Half} {f : Nat → Effect}
  (hx : exec x σ = solo (withSelector count m f) σ)
include hx

/-- With bit n alone set the instruction works on accumulator n. -/
theorem exec_withSelector {n : Nat} {ws : List Write} (hn : n < count) (h16 : count ≤ 16)
    (hm : m = BitVec.twoPow 16 n) (hf : f n = .ok ws) : exec x σ = .next (commitAll ws σ) := by
  have hone : onehot m = some n := onehot_eq_some_iff.mpr ⟨hn.trans_le h16, hm⟩
  rw [hx, withSelector, hone]
  simp only [hn, if_true, hf, solo]

/-- With any other selector it is refused. -/
theorem exec_withSelector_refused (hm : ∀ n < count, m ≠ BitVec.twoPow 16 n) : exec x σ = .refused .selector := by
  have herr : withSelector count m f = .error .selector := by
    unfold withSelector
    split
    · rename_i n hone
      exact if_neg fun hn => hm n hn (onehot_eq_some_iff.mp hone).2
    · rfl
  rw [hx, herr]
  rfl

end

/-- The number of an accumulator names it. -/
theorem ofNat_toNat_self {w : Nat} (n : BitVec w) : BitVec.ofNat w n.toNat = n := by
  rw [BitVec.ofNat_toNat, BitVec.setWidth_eq]

/-! ### Clearing -/

/-- The writes of CLRAC for the accumulators numbered in a list (44_mac.md R276). -/
def clears (mask : Half) (ns : List Nat) : List Write :=
  ns.filterMap fun n => if mask.getLsbD n then some (.ac (BitVec.ofNat 4 n) 0) else none

theorem fx_clrac (rt : Reg) (σ : State) : fx (.clrac rt) σ = .ok (clears (σ.me.h rt) (List.range 16)) := rfl

section
variable {mask : Half} {n : Nat} (ns : List Nat)

theorem clears_cons_unset (h : mask.getLsbD n = false) : clears mask (n :: ns) = clears mask ns :=
  List.filterMap_cons_none (by rw [h]; rfl)

theorem clears_cons_set (h : mask.getLsbD n = true) :
    clears mask (n :: ns) = .ac (BitVec.ofNat 4 n) 0 :: clears mask ns :=
  List.filterMap_cons_some (by rw [h]; rfl)

end

/-- The accumulators of the list whose bit is set then hold 0, the others what they held. -/
theorem acL_commitAll_clears (mask : Half) (m : BitVec 4) : ∀ (ns : List Nat) (σ : State), (∀ n ∈ ns, n < 16) →
    (commitAll (clears mask ns) σ).me.acL m =
      if m.toNat ∈ ns ∧ mask.getLsbD m.toNat = true then 0 else σ.me.acL m
  | [], _, _ => by simp [clears, commitAll]
  | n :: rest, σ, hlt => by
    have hrest : ∀ i ∈ rest, i < 16 := fun i hi => hlt i (List.mem_cons_of_mem n hi)
    cases hbit : mask.getLsbD n
    case false =>
      have hother : mask.getLsbD m.toNat = true → m.toNat ≠ n := by
        rintro hm rfl
        exact Bool.false_ne_true (hbit.symm.trans hm)
      rw [clears_cons_unset rest hbit, acL_commitAll_clears mask m rest σ hrest]
      refine if_congr (and_congr_left fun hm => ?_) rfl rfl
      rw [List.mem_cons, or_iff_right (hother hm)]
    case true =>
      rw [clears_cons_set rest hbit, commitAll, acL_commitAll_clears mask m rest _ hrest, commit, State.me_onMe]
      by_cases hm : BitVec.ofNat 4 n = m
      · have hnum : m.toNat = n := by
          rw [← hm, BitVec.toNat_ofNat, Nat.mod_eq_of_lt (hlt n List.mem_cons_self)]
        rw [hm, Core.acL_setAcL_same, ite_self, if_pos ⟨hnum ▸ List.mem_cons_self, hnum ▸ hbit⟩]
      · have hne : m.toNat ≠ n := fun e => hm (by rw [← e, ofNat_toNat_self])
        simp only [Core.acL_setAcL_ne _ _ hm, List.mem_cons, or_iff_right hne]

/-- A write of an accumulator whose bit is set keeps the accumulators whose bit is not. -/
theorem frame_setAcL_of_bit {mask : BitVec 16} {n : BitVec 4} (σ : State) (v : Word)
    (h : mask.getLsbD n.toNat = true) : Frame σ (σ.onMe fun k => k.setAcL n v) 0 mask 0 := by
  refine (frame_setAcL σ n v).mono (fun _ hu => hu) (fun i hi => ?_) fun _ hc => hc
  rw [BitVec.getLsbD_twoPow, Bool.and_eq_false_imp]
  rintro -
  refine decide_eq_false fun hni => ?_
  rw [hni, hi] at h
  cases h

/-- Clearing changes the accumulators of its mask alone. -/
theorem frame_commitAll_clears (mask : Half) : ∀ (ns : List Nat) (σ : State), (∀ n ∈ ns, n < 16) →
    Frame σ (commitAll (clears mask ns) σ) 0 mask 0
  | [], σ, _ => Frame.refl σ _ _ _
  | n :: rest, σ, hlt => by
    have hrest : ∀ i ∈ rest, i < 16 := fun i hi => hlt i (List.mem_cons_of_mem n hi)
    cases hbit : mask.getLsbD n
    case false =>
      rw [clears_cons_unset rest hbit]
      exact frame_commitAll_clears mask rest σ hrest
    case true =>
      have hnum : (BitVec.ofNat 4 n).toNat = n := by
        rw [BitVec.toNat_ofNat, Nat.mod_eq_of_lt (hlt n List.mem_cons_self)]
      have hfirst := frame_setAcL_of_bit (n := BitVec.ofNat 4 n) σ 0 (hnum.symm ▸ hbit)
      have hboth := hfirst.trans (frame_commitAll_clears mask rest _ hrest)
      rw [BitVec.or_self (x := mask)] at hboth
      rw [clears_cons_set rest hbit]
      exact hboth

/-! ### Accumulations -/

/-- The writes that add a number to each of some 64-bit accumulators (44_mac.md R275). -/
def accums (σ : State) (adds : List (BitVec 3 × Int)) : Effect :=
  .ok (adds.map fun p => accum σ p.1 p.2)

/-- An instruction whose writes are accumulations into distinct accumulators. -/
theorem accumulates_of_accums {x : Instr} {σ : State} {adds : List (BitVec 3 × Int)}
    (hx : exec x σ = solo (accums σ adds) σ) (hd : (adds.map (·.1)).Nodup) : Accumulates x σ adds :=
  accumulates_of hx rfl hd

/-- The same with an allowed accumulator number. -/
theorem accumulates_of_withAcc {x : Instr} {σ : State} {l : List Nat} {t s d : BitVec 5}
    {adds : List (BitVec 3 × Int)} (hn : (accField σ.cfg.macNField t s d).toNat ∈ l)
    (hx : exec x σ = solo (withAcc σ l t s d fun _ => accums σ adds) σ) (hd : (adds.map (·.1)).Nodup) :
    Accumulates x σ adds :=
  accumulates_of_accums (by rw [hx, withAcc_ok hn]) hd

/-! ### The accumulators of an instruction are distinct -/

theorem nodup_accPair (a : BitVec 3) : [a + 1, a].Nodup := by
  revert a
  decide

theorem nodup_accQuad (a : BitVec 3) : [a, a + 1, a + 2, a + 3].Nodup := by
  revert a
  decide

theorem nodup_accAll : ([0, 1, 2, 3, 4, 5, 6, 7] : List (BitVec 3)).Nodup := by
  decide

/-! ### Parts of the operands -/

/-- The one part of a halfword. -/
theorem sh_half (v : Half) : sh v 0 = v.toInt :=
  congrArg BitVec.toInt BitVec.extractLsb'_eq_self

/-- The sum over four parts, written from the upper part down as the source does. -/
theorem sum_range_four_downward (f : Nat → Int) : ∑ i ∈ Finset.range 4, f i = f 3 + f 2 + f 1 + f 0 := by
  simp only [Finset.sum_range_succ, Finset.sum_range_zero]
  ring

end Sys2Proof.Machine
end

section
/-! SUPPORT. The statements of 44_mac.md on accumulator control and on multiplication with accumulation. -/

namespace Sys2Proof.Machine

/-! ### Accumulator control -/

/-- Settles O23: the writes of CLRAC, accumulator by accumulator. -/
theorem clearAccumulators : Obligations.ClearAccumulators := by
  intro σ rt
  have hlt : ∀ n ∈ List.range 16, n < 16 := fun n => List.mem_range.mp
  refine ⟨⟨rfl, rfl⟩, _, congrArg (solo · σ) (fx_clrac rt σ), fun n => ?_, frame_commitAll_clears _ _ σ hlt⟩
  rw [acL_commitAll_clears _ n _ σ hlt]
  simp only [List.mem_range, n.isLt, true_and]

/-- Settles O24: a one-hot selector names one accumulator, which is read or written; another selector is refused. -/
theorem moveAccumulators : Obligations.MoveAccumulators := by
  intro σ rt r
  refine ⟨⟨rfl, rfl⟩, ⟨rfl, rfl⟩, ⟨rfl, rfl⟩, ⟨rfl, rfl⟩, fun n hsel => ⟨?ldac, ?stac⟩, fun n hsel => ⟨?ldacd, ?stacd⟩,
    fun hsel => ⟨exec_withSelector_refused rfl hsel, exec_withSelector_refused rfl hsel⟩,
    fun hsel => ⟨exec_withSelector_refused rfl hsel, exec_withSelector_refused rfl hsel⟩⟩
  case ldac =>
    exact yieldsL_of (exec_withSelector (ws := [.l r (σ.me.acL n)]) rfl n.isLt (by decide) hsel
      (by rw [ofNat_toNat_self])) rfl
  case stac =>
    refine ⟨σ.onMe fun k => k.setAcL n (σ.me.l r), ?_, ?_, frame_setAcL σ n _⟩
    · exact exec_withSelector (ws := [.ac n (σ.me.l r)]) rfl n.isLt (by decide) hsel (by rw [ofNat_toNat_self])
    · rw [State.me_onMe, Core.acL_setAcL_same]
  case ldacd =>
    exact yieldsD_of (exec_withSelector (ws := [.d r (σ.me.acc64 n)]) rfl n.isLt (by decide) hsel
      (by rw [ofNat_toNat_self])) rfl
  case stacd =>
    refine ⟨σ.onMe fun k => k.setAcc64 n (σ.me.d r), ?_, ?_, frame_setAcc64 σ n _⟩
    · exact exec_withSelector (ws := [.acc64 n (σ.me.d r)]) rfl n.isLt (by decide) hsel (by rw [ofNat_toNat_self])
    · rw [State.me_onMe, Core.acc64_setAcc64_same]

/-! ### Products into accumulators -/

/-- Settles O25: the sums are those of the model; even `.Q` operands and the number are checked first. -/
theorem macSums : Obligations.MacSums := by
  intro σ rt rs n num a quad dbl word even
  have hquad (start count : Nat) : quad start count = sumProd (σ.me.q rt) (σ.me.q rs) start count :=
    (sumProd_eq _ _ _ _).symm
  have hdbl (start count : Nat) : dbl start count = sumProd (σ.me.d rt) (σ.me.d rs) start count :=
    (sumProd_eq _ _ _ _).symm
  have hword : word = sumProd (σ.me.l rt) (σ.me.l rs) 0 2 := by
    simp only [sumProd_eq, Nat.zero_add, word]
  have hns (he : even) : [rt, rs].all quadOk = true := by simpa using he
  simp only [hquad, hdbl, hword]
  refine ⟨⟨rfl, rfl⟩, ⟨rfl, rfl⟩, ⟨rfl, rfl⟩, ⟨rfl, rfl⟩, ⟨rfl, rfl⟩, ⟨rfl, rfl⟩,
    fun hn => ⟨fun he => ?mac81, ?mac41, ?mac21⟩, fun hn => ⟨fun he => ?mac42, ?mac22⟩, fun hn he => ?mac24⟩
  case mac81 => exact accumulates_of_withAcc hn (exec_of_needQuad rfl (hns he) rfl) (List.nodup_singleton a)
  case mac41 | mac21 => exact accumulates_of_withAcc hn rfl (List.nodup_singleton a)
  case mac42 => exact accumulates_of_withAcc hn (exec_of_needQuad rfl (hns he) rfl) (nodup_accPair a)
  case mac22 => exact accumulates_of_withAcc hn rfl (nodup_accPair a)
  case mac24 => exact accumulates_of_withAcc hn (exec_of_needQuad rfl (hns he) rfl) (nodup_accQuad a)

/-- Settles O26: one product for each accumulator. -/
theorem macSeparate : Obligations.MacSeparate := by
  intro σ rt rs n num a quad dbl word
  refine ⟨⟨rfl, rfl⟩, ⟨rfl, rfl⟩, ⟨rfl, rfl⟩, ⟨rfl, rfl⟩, fun he => ?mac18, fun hn => ?mac14, fun hn => ?mac12,
    fun hn => ?mac11⟩
  case mac18 =>
    have hns : [rt, rs].all quadOk = true := by simpa using he
    exact accumulates_of_accums (exec_of_needQuad rfl hns rfl) nodup_accAll
  case mac14 => exact accumulates_of_withAcc hn rfl (nodup_accQuad a)
  case mac12 => exact accumulates_of_withAcc hn rfl (nodup_accPair a)
  case mac11 => exact accumulates_of_withAcc hn rfl (List.nodup_singleton a)

/-- Settles O27: each instruction adds a real part to AC(n+1) and an imaginary part to ACn. -/
theorem macComplex : Obligations.MacComplex := by
  intro σ rt rs n num hn a X Y
  refine ⟨⟨⟨rfl, rfl⟩, ?macx2⟩, ⟨⟨rfl, rfl⟩, ?macxc2⟩, ⟨⟨rfl, rfl⟩, ?macx⟩, ⟨rfl, rfl⟩, ?macxc⟩
  case macx2 | macxc2 | macx | macxc => exact accumulates_of_withAcc hn rfl (nodup_accPair a)

/-- Settles O28: the sums over the byte pairs part by part, and the signed parts as the model takes them. -/
theorem macAdditional : Obligations.MacAdditional := by
  intro σ rt rs n num a tre tim sre sim signed quad dbl word
  have hhalf : signed 0 (σ.me.h rs).toInt = signedPart (σ.me.h rt) (σ.me.h rs) 0 :=
    congrArg (signed 0) (sh_half _).symm
  refine ⟨⟨rfl, rfl⟩, ⟨rfl, rfl⟩, ⟨rfl, rfl⟩, ⟨rfl, rfl⟩, ⟨rfl, rfl⟩, ⟨rfl, rfl⟩, fun hn he => ?macxb4,
    fun hn => ⟨?macl2, ?acsg1⟩, fun hs => ?acsg8, fun hn => ?acsg4, fun hn => ?acsg2⟩
  case macxb4 =>
    have hns : [rt, rs].all quadOk = true := by simpa using he
    rw [sum_range_four_downward, sum_range_four_downward]
    exact accumulates_of_withAcc hn (exec_of_needQuad rfl hns rfl) (nodup_accPair a)
  case macl2 => exact accumulates_of_withAcc hn rfl (List.nodup_singleton a)
  case acsg1 =>
    rw [hhalf]
    exact accumulates_of_withAcc hn rfl (List.nodup_singleton a)
  case acsg8 => exact accumulates_of_accums (exec_of_needQuad (ns := [rs]) rfl (by simpa using hs) rfl) nodup_accAll
  case acsg4 => exact accumulates_of_withAcc hn rfl (nodup_accQuad a)
  case acsg2 => exact accumulates_of_withAcc hn rfl (List.nodup_reverse.mp (nodup_accPair a))

end Sys2Proof.Machine
end

section
/-! SUPPORT. The shifter's operations as shifts of bit vectors, the 65-bit rotations through C, the count of the 1 bits,
and an operation whose amount a register holds (45_shifter64.md R315..R332; 48_alu64.md R415, R416). -/

namespace Sys2Proof.Machine

/-! ### Shifted values -/

/-- Floor division of the signed value is the arithmetic shift (R316). -/
theorem asr_eq_sshiftRight {n : Nat} (v : BitVec n) (a : Nat) : asr v a = v.sshiftRight a := by
  rw [asr, wrap, BitVec.sshiftRight_eq, Int.shiftRight_eq_div_pow]
  norm_cast

theorem lsr_eq_ushiftRight {n : Nat} (v : BitVec n) (a : Nat) : lsr v a = v >>> a := by
  rw [lsr, ← Nat.shiftRight_eq_div_pow, ← BitVec.toNat_ushiftRight, BitVec.ofNat_toNat, BitVec.setWidth_eq]

theorem toNat_lsr {n : Nat} (v : BitVec n) (a : Nat) : (lsr v a).toNat = v.toNat / 2 ^ a := by
  rw [lsr_eq_ushiftRight, BitVec.toNat_ushiftRight, Nat.shiftRight_eq_div_pow]

theorem toNat_shl {n : Nat} (v : BitVec n) (a : Nat) : (shl v a).toNat = v.toNat * 2 ^ a % 2 ^ n :=
  BitVec.toNat_ofNat _ _

theorem shl_eq_shiftLeft {n : Nat} (v : BitVec n) (a : Nat) : shl v a = v <<< a :=
  BitVec.eq_of_toNat_eq (by rw [toNat_shl, BitVec.toNat_shiftLeft, Nat.shiftLeft_eq])

/-! ### Rotated values -/

section
variable (c : Bool) (s : Dbl)

/-- RORD puts C above bits 63..1 of S (R324). -/
theorem getLsbD_rotatedRight_top : (BitVec.ofBool c ++ s.extractLsb' 1 63).getLsbD 63 = c := by
  rw [BitVec.getLsbD_append, if_neg (by decide)]
  exact BitVec.getLsbD_ofBool c 0

theorem getLsbD_rotatedRight {i : Nat} (hi : i < 63) :
    (BitVec.ofBool c ++ s.extractLsb' 1 63).getLsbD i = s.getLsbD (i + 1) := by
  rw [BitVec.getLsbD_append, if_pos hi, BitVec.getLsbD_extractLsb', decide_eq_true hi, Bool.true_and, Nat.add_comm]

/-- ROLD puts C below bits 62..0 of S (R325). -/
theorem getLsbD_rotatedLeft_zero : (s.extractLsb' 0 63 ++ BitVec.ofBool c).getLsbD 0 = c := by
  rw [BitVec.getLsbD_append, if_pos Nat.one_pos]
  exact BitVec.getLsbD_ofBool c 0

theorem getLsbD_rotatedLeft {i : Nat} (hi : i < 63) :
    (s.extractLsb' 0 63 ++ BitVec.ofBool c).getLsbD (i + 1) = s.getLsbD i := by
  rw [BitVec.getLsbD_append, if_neg (by omega), BitVec.getLsbD_extractLsb', Nat.add_sub_cancel, decide_eq_true hi,
    Bool.true_and, Nat.zero_add]

end

/-- The number that SMBD writes fits its 16-bit destination (R330). -/
theorem toNat_ofNat_popcount (s : Dbl) :
    (BitVec.ofNat 16 (popcount s 64)).toNat = ((List.range 64).filter fun i => s.getLsbD i).length := by
  have hfits : popcount s 64 < 2 ^ 16 := by
    rw [popcount_eq_count]
    exact Nat.lt_of_le_of_lt (Nat.count_le _) (by decide)
  rw [BitVec.toNat_ofNat, Nat.mod_eq_of_lt hfits, popcount_eq_count, Nat.count, List.countP_eq_length_filter]
  simp only [Bool.decide_eq_true]

/-! ### The operations whose amounts a register holds -/

section
variable (σ : State) (rt rs rd : Reg)

theorem exec_asrd : exec (.asrd rt rs rd) σ =
    solo (withAmount 63 (σ.me.h rt) fun n => .ok [.d rd (asr (σ.me.d rs) n)]) σ := rfl

theorem exec_asld : exec (.asld rt rs rd) σ =
    solo (withAmount 63 (σ.me.h rt) fun n => .ok [.d rd (shl (σ.me.d rs) n)]) σ := rfl

theorem exec_lsrd : exec (.lsrd rt rs rd) σ =
    solo (withAmount 63 (σ.me.h rt) fun n => .ok [.d rd (lsr (σ.me.d rs) n)]) σ := rfl

theorem exec_lsld : exec (.lsld rt rs rd) σ =
    solo (withAmount 63 (σ.me.h rt) fun n => .ok [.d rd (shl (σ.me.d rs) n)]) σ := rfl

theorem exec_asrxl : exec (.asrxl rt rs rd) σ =
    solo (withAmount 31 (σ.me.h rt) fun n => .ok [.d rd (map2w fun i => asr (wp (σ.me.d rs) i) n)]) σ := rfl

theorem exec_aslxl : exec (.aslxl rt rs rd) σ =
    solo (withAmount 31 (σ.me.h rt) fun n => .ok [.d rd (map2w fun i => shl (wp (σ.me.d rs) i) n)]) σ := rfl

theorem exec_lsrxl : exec (.lsrxl rt rs rd) σ =
    solo (withAmount 31 (hp (σ.me.l rt) 1) fun n1 => withAmount 31 (hp (σ.me.l rt) 0) fun n0 =>
      .ok [.d rd (two32 (lsr (wp (σ.me.d rs) 1) n1) (lsr (wp (σ.me.d rs) 0) n0))]) σ := rfl

theorem exec_lslxl : exec (.lslxl rt rs rd) σ =
    solo (withAmount 31 (hp (σ.me.l rt) 1) fun n1 => withAmount 31 (hp (σ.me.l rt) 0) fun n0 =>
      .ok [.d rd (two32 (shl (wp (σ.me.d rs) 1) n1) (shl (wp (σ.me.d rs) 0) n0))]) σ := rfl

theorem exec_btstd : exec (.btstd rt rs) σ =
    solo (withAmount 63 (σ.me.h rt) fun n => .ok [.flagC ((σ.me.d rs).getLsbD n)]) σ := rfl

theorem exec_asrde : exec (.asrde rt rs rd) σ =
    solo (withAmount 63 (σ.me.h rt) fun n =>
      .ok [if σ.me.eBit then .d rd (asr (σ.me.d rd) n) else .d rs (asr (σ.me.d rs) n)]) σ := rfl

end

/-! ### Amounts held in a register -/

section
variable {x : Instr} {σ : State} {limit : Nat} {a : Half} {f : Nat → Effect}
  (hx : exec x σ = solo (withAmount limit a f) σ)
include hx

/-- Within the limit the instruction does what its writes for that amount do. -/
theorem exec_of_withAmount (ha : a.toNat ≤ limit) : exec x σ = solo (f a.toNat) σ := by
  rw [hx, withAmount_ok ha]

theorem exec_withAmount_refused (ha : limit < a.toNat) : exec x σ = .refused .shiftAmount := by
  rw [hx, withAmount_refused ha]
  rfl

end

/-- The forms with an amount for each component (R328, R329): either of the two may be refused. -/
theorem exec_withAmounts_refused {x : Instr} {σ : State} {limit : Nat} {a1 a0 : Half} {f : Nat → Nat → Effect}
    (hx : exec x σ = solo (withAmount limit a1 fun n1 => withAmount limit a0 fun n0 => f n1 n0) σ)
    (ha : limit < a1.toNat ∨ limit < a0.toNat) : exec x σ = .refused .shiftAmount := by
  by_cases h1 : limit < a1.toNat
  · exact exec_withAmount_refused hx h1
  · exact exec_withAmount_refused (exec_of_withAmount hx (Nat.not_lt.mp h1)) (ha.resolve_left h1)

/-! ### The statements -/

/-- Settles O4: each shift writes the shifted value alone. -/
theorem immediateShifts : Obligations.ImmediateShifts := by
  intro σ imm rs rd S
  refine ⟨⟨⟨rfl, rfl⟩, ?asrdi⟩, ⟨⟨rfl, rfl⟩, ?asldi⟩, ⟨⟨rfl, rfl⟩, ?lsrdi⟩, ⟨rfl, rfl⟩, ?lsldi⟩
  case asrdi => exact yieldsD_of rfl (asr_eq_sshiftRight S _)
  case lsrdi => exact yieldsD_of rfl (toNat_lsr S _)
  case asldi | lsldi => exact yieldsD_of rfl (toNat_shl S _)

/-- Settles O5: within the limits each shift writes the shifted value, or the two shifted components; the amounts are
checked first. -/
theorem registerShifts : Obligations.RegisterShifts := by
  intro σ rt rs rd S a a1 a0
  simp only [← asr_eq_sshiftRight, ← lsr_eq_ushiftRight, ← shl_eq_shiftLeft]
  refine ⟨⟨rfl, rfl⟩, ⟨rfl, rfl⟩, ⟨rfl, rfl⟩, ⟨rfl, rfl⟩, ⟨rfl, rfl⟩, ⟨rfl, rfl⟩, ⟨rfl, rfl⟩, ⟨rfl, rfl⟩,
    fun ha => ⟨?asrd, ?asld, ?lsrd, ?lsld⟩, fun ha => ⟨?asrd63, ?asld63, ?lsrd63, ?lsld63⟩,
    fun ha => ⟨?asrxl, ?aslxl⟩, fun ha => ⟨?asrxl31, ?aslxl31⟩,
    fun ⟨ha1, ha0⟩ => ⟨?lsrxl, ?lslxl⟩, fun ha => ⟨?lsrxl31, ?lslxl31⟩⟩
  case asrd => exact yieldsD_of (exec_of_withAmount (exec_asrd ..) ha) rfl
  case asld => exact yieldsD_of (exec_of_withAmount (exec_asld ..) ha) rfl
  case lsrd => exact yieldsD_of (exec_of_withAmount (exec_lsrd ..) ha) rfl
  case lsld => exact yieldsD_of (exec_of_withAmount (exec_lsld ..) ha) rfl
  case asrd63 => exact exec_withAmount_refused (exec_asrd ..) ha
  case asld63 => exact exec_withAmount_refused (exec_asld ..) ha
  case lsrd63 => exact exec_withAmount_refused (exec_lsrd ..) ha
  case lsld63 => exact exec_withAmount_refused (exec_lsld ..) ha
  case asrxl => exact yieldsD_two32 (exec_of_withAmount (exec_asrxl ..) ha)
  case aslxl => exact yieldsD_two32 (exec_of_withAmount (exec_aslxl ..) ha)
  case asrxl31 => exact exec_withAmount_refused (exec_asrxl ..) ha
  case aslxl31 => exact exec_withAmount_refused (exec_aslxl ..) ha
  case lsrxl => exact yieldsD_two32 (exec_of_withAmount (exec_of_withAmount (exec_lsrxl ..) ha1) ha0)
  case lslxl => exact yieldsD_two32 (exec_of_withAmount (exec_of_withAmount (exec_lslxl ..) ha1) ha0)
  case lsrxl31 => exact exec_withAmounts_refused (exec_lsrxl ..) ha
  case lslxl31 => exact exec_withAmounts_refused (exec_lslxl ..) ha

/-- An instruction that writes a 64-bit register and then C. -/
theorem next_setD_setC {x : Instr} {σ : State} {rd : Reg} {v : Dbl} {b : Bool}
    (hx : exec x σ = .next ((σ.onMe fun k => k.setD rd v).setC b)) :
    ∃ τ, exec x σ = .next τ ∧ τ.me.d rd = v ∧ τ.flagC = b ∧
      Frame σ τ (unitMask rd .w64) 0 (BitVec.twoPow 16 σ.cfg.ccrC.toNat) := by
  have hboth := (frame_setD σ rd v).trans (frame_setC (σ.onMe fun k => k.setD rd v) b)
  refine ⟨_, hx, ?_, State.flagC_setC _ b, ?_⟩
  · rw [State.setC, State.me_onMe, State.me_onMe]
    exact Core.d_setD_same σ.me rd v
  · simpa using hboth

/-- An instruction whose only write is C. -/
theorem next_setC {x : Instr} {σ : State} {b : Bool} (hx : exec x σ = .next (σ.setC b)) :
    ∃ τ, exec x σ = .next τ ∧ τ.flagC = b ∧ Frame σ τ 0 0 (BitVec.twoPow 16 σ.cfg.ccrC.toNat) :=
  ⟨_, hx, σ.flagC_setC b, frame_setC σ b⟩

/-- Settles O6: a rotation writes 64 of the 65 bits to D and the one pushed out to C. -/
theorem rotationsAndBitTests : Obligations.RotationsAndBitTests := by
  intro σ imm rs rd S c
  refine ⟨⟨⟨rfl, rfl⟩, ?rord⟩, ⟨⟨rfl, rfl⟩, ?rold⟩, ⟨⟨rfl, rfl⟩, ?btstdi⟩, ⟨rfl, rfl⟩, ?smbd⟩
  case rord =>
    obtain ⟨τ, hx, hd, hc, hframe⟩ := next_setD_setC (x := .rord rs rd) (σ := σ) rfl
    refine ⟨τ, hx, ?_, fun i hi => ?_, hc, hframe⟩
    · exact hd ▸ getLsbD_rotatedRight_top _ S
    · exact hd ▸ getLsbD_rotatedRight _ S hi
  case rold =>
    obtain ⟨τ, hx, hd, hc, hframe⟩ := next_setD_setC (x := .rold rs rd) (σ := σ) rfl
    refine ⟨τ, hx, ?_, fun i hi => ?_, hc, hframe⟩
    · exact hd ▸ getLsbD_rotatedLeft_zero _ S
    · exact hd ▸ getLsbD_rotatedLeft _ S hi
  case btstdi => exact next_setC rfl
  case smbd => exact yieldsH_of rfl (toNat_ofNat_popcount S)

/-- Settles O7: the amount is checked first; ASRDE then writes the one register that E selects. -/
theorem mantissaAndBitNumber : Obligations.MantissaAndBitNumber := by
  intro σ rt rs rd a
  simp only [← asr_eq_sshiftRight]
  refine ⟨⟨rfl, rfl⟩, ⟨rfl, rfl⟩, fun ha => ?btstd, fun ha hE => ?source, fun ha hE => ?destination,
    fun ha => ⟨exec_withAmount_refused (exec_btstd ..) ha, exec_withAmount_refused (exec_asrde ..) ha⟩⟩
  case btstd => exact next_setC (exec_of_withAmount (exec_btstd ..) ha)
  case source | destination => exact yieldsD_of ((exec_of_withAmount (exec_asrde ..) ha).trans (by rw [hE]; rfl)) rfl

end Sys2Proof.Machine
end

section
/-! SUPPORT. The packed ALU: its sums over the parts of an operand, the parts of packed complex numbers, and the scaled
operand forms (46_alu_packed.md R340, R352..R354, R359, R360, R368, R369). -/

namespace Sys2Proof.Machine

/-! ### Sums over parts -/

theorem sumParts_eq {n : Nat} (s : BitVec n) (start count : Nat) :
    sumParts s start count = ∑ i ∈ Finset.range count, sh s (start + i) := by
  induction count with
  | zero => rfl
  | succ c ih => rw [Finset.sum_range_succ, ← ih, sumParts]

/-- The running sum adds the differences lane by lane (R360). -/
theorem runSum_eq {n : Nat} (t s : BitVec n) (count : Nat) :
    runSum t s count = ∑ j ∈ Finset.range count, (sh s j - sh t j) := by
  induction count with
  | zero => rfl
  | succ c ih => rw [Finset.sum_range_succ, ← ih, runSum, add_sub_assoc]

/-! ### Packed complex numbers -/

/-- Eight halfwords as a list, most significant first. -/
theorem hps_eight16 (x7 x6 x5 x4 x3 x2 x1 x0 : Half) :
    [hp (eight16 x7 x6 x5 x4 x3 x2 x1 x0) 7, hp (eight16 x7 x6 x5 x4 x3 x2 x1 x0) 6,
      hp (eight16 x7 x6 x5 x4 x3 x2 x1 x0) 5, hp (eight16 x7 x6 x5 x4 x3 x2 x1 x0) 4,
      hp (eight16 x7 x6 x5 x4 x3 x2 x1 x0) 3, hp (eight16 x7 x6 x5 x4 x3 x2 x1 x0) 2,
      hp (eight16 x7 x6 x5 x4 x3 x2 x1 x0) 1, hp (eight16 x7 x6 x5 x4 x3 x2 x1 x0) 0] =
    [x7, x6, x5, x4, x3, x2, x1, x0] := by
  obtain ⟨h7, h6, h5, h4, h3, h2, h1, h0⟩ := hp_eight16 x7 x6 x5 x4 x3 x2 x1 x0
  rw [h7, h6, h5, h4, h3, h2, h1, h0]

/-- Four complex numbers in 128 bits, each with its real part upper. -/
theorem hp_fourComplex (re im : Nat → Half) (k : Nat) (hk : k < 4) :
    hp (eight16 (re 3) (im 3) (re 2) (im 2) (re 1) (im 1) (re 0) (im 0)) (2 * k + 1) = re k ∧
    hp (eight16 (re 3) (im 3) (re 2) (im 2) (re 1) (im 1) (re 0) (im 0)) (2 * k) = im k := by
  obtain ⟨h7, h6, h5, h4, h3, h2, h1, h0⟩ := hp_eight16 (re 3) (im 3) (re 2) (im 2) (re 1) (im 1) (re 0) (im 0)
  exact match k, hk with
    | 0, _ => ⟨h1, h0⟩
    | 1, _ => ⟨h3, h2⟩
    | 2, _ => ⟨h5, h4⟩
    | 3, _ => ⟨h7, h6⟩

/-! ### Scaled forms

`hk` says that the scaling shifts by k, as `withScale_ok` and `withScale_forced` give it. -/

section
variable {x : Instr} {σ : State} {forced three : Bool} {k : Nat}
  (hk : ∀ f, withScale σ forced three f = f k)
include hk

/-- An instruction of the scaled form makes the one write that belongs to its shift. -/
theorem exec_of_withScale {w : Nat → Write}
    (hx : exec x σ = solo (withScale σ forced three fun j => .ok [w j]) σ) : exec x σ = .next (commit (w k) σ) := by
  rw [hx, hk]
  rfl

/-- A scaled instruction whose only write is a 16-bit register. -/
theorem yieldsH_of_withScale {rd : Reg} {v : Nat → Half} {P : Half → Prop}
    (hx : exec x σ = solo (withScale σ forced three fun j => .ok [.h rd (v j)]) σ) (hv : P (v k)) :
    YieldsH x σ rd P :=
  yieldsH_of (exec_of_withScale hk (w := fun j => .h rd (v j)) hx) hv

/-- A scaled instruction whose only write is a 32-bit register. -/
theorem yieldsL_of_withScale {rd : Reg} {v : Nat → Word} {P : Word → Prop}
    (hx : exec x σ = solo (withScale σ forced three fun j => .ok [.l rd (v j)]) σ) (hv : P (v k)) :
    YieldsL x σ rd P :=
  yieldsL_of (exec_of_withScale hk (w := fun j => .l rd (v j)) hx) hv

/-- A scaled instruction whose only write is a 64-bit register. -/
theorem yieldsD_of_withScale {rd : Reg} {v : Nat → Dbl} {P : Dbl → Prop}
    (hx : exec x σ = solo (withScale σ forced three fun j => .ok [.d rd (v j)]) σ) (hv : P (v k)) :
    YieldsD x σ rd P :=
  yieldsD_of (exec_of_withScale hk (w := fun j => .d rd (v j)) hx) hv

/-- A scaled instruction with even `.Q` operands whose only write is a 128-bit register. -/
theorem yieldsQ_of_withScale {ns : List Reg} {rd : Reg} {v : Nat → Quad} {P : Quad → Prop}
    (hns : ns.all quadOk = true)
    (hx : exec x σ = solo (needQuad ns (withScale σ forced three fun j => .ok [.q rd (v j)])) σ) (hv : P (v k)) :
    YieldsQ x σ rd P :=
  yieldsQ_of (exec_of_withScale hk (w := fun j => .q rd (v j)) (exec_of_needQuad hx hns rfl)) hv

/-- Lanes of 16 bits in a 128-bit register: each is its own exact result, scaled and narrowed (R340). -/
theorem yieldsQ_lanes16 {ns : List Reg} {rd : Reg} {g : Nat → Int} (hns : ns.all quadOk = true)
    (hx : exec x σ =
      solo (needQuad ns (withScale σ forced three fun j => .ok [.q rd (map8h fun i => lane16 σ j (g i))])) σ) :
    YieldsQ x σ rd fun v => ∀ i < 8, hp v i = lane16 σ k (g i) :=
  yieldsQ_of_withScale hk hns hx fun i hi => hp_map8h _ i hi

/-- Lanes of 16 bits in a 64-bit register. -/
theorem yieldsD_lanes16 {rd : Reg} {g : Nat → Int}
    (hx : exec x σ = solo (withScale σ forced three fun j => .ok [.d rd (map4h fun i => lane16 σ j (g i))]) σ) :
    YieldsD x σ rd fun v => ∀ i < 4, hp v i = lane16 σ k (g i) :=
  yieldsD_of_withScale hk hx fun i hi => hp_map4h _ i hi

/-- Lanes of 16 bits in a 32-bit register. -/
theorem yieldsL_lanes16 {rd : Reg} {g : Nat → Int}
    (hx : exec x σ = solo (withScale σ forced three fun j => .ok [.l rd (map2h fun i => lane16 σ j (g i))]) σ) :
    YieldsL x σ rd fun v => ∀ i < 2, hp v i = lane16 σ k (g i) :=
  yieldsL_of_withScale hk hx fun i hi => hp_map2h _ i hi

/-- Lanes of 32 bits in a 128-bit register. -/
theorem yieldsQ_lanes32 {ns : List Reg} {rd : Reg} {g : Nat → Int} (hns : ns.all quadOk = true)
    (hx : exec x σ =
      solo (needQuad ns (withScale σ forced three fun j => .ok [.q rd (map4w fun i => lane32 σ j (g i))])) σ) :
    YieldsQ x σ rd fun v => ∀ i < 4, wp v i = lane32 σ k (g i) :=
  yieldsQ_of_withScale hk hns hx fun i hi => wp_map4w _ i hi

/-- Lanes of 32 bits in a 64-bit register. -/
theorem yieldsD_lanes32 {rd : Reg} {g : Nat → Int}
    (hx : exec x σ = solo (withScale σ forced three fun j => .ok [.d rd (map2w fun i => lane32 σ j (g i))]) σ) :
    YieldsD x σ rd fun v => ∀ i < 2, wp v i = lane32 σ k (g i) :=
  yieldsD_of_withScale hk hx fun i hi => wp_map2w _ i hi

/-- Four complex numbers with even `.Q` operands, every part scaled and narrowed by itself (R368, R369). -/
theorem yieldsQ_fourComplex {ns : List Reg} {rd : Reg} {re im : Nat → Int} (hns : ns.all quadOk = true)
    (hx : exec x σ = solo (needQuad ns (withScale σ forced three fun j => .ok [.q rd (eight16
      (lane16 σ j (re 3)) (lane16 σ j (im 3)) (lane16 σ j (re 2)) (lane16 σ j (im 2))
      (lane16 σ j (re 1)) (lane16 σ j (im 1)) (lane16 σ j (re 0)) (lane16 σ j (im 0)))])) σ) :
    YieldsQ x σ rd fun v => ∀ i < 4, hp v (2 * i + 1) = lane16 σ k (re i) ∧ hp v (2 * i) = lane16 σ k (im i) :=
  yieldsQ_of_withScale hk hns hx <|
    hp_fourComplex (fun i => lane16 σ k (re i)) (fun i => lane16 σ k (im i))

/-- Two complex numbers in 64 bits, part by part (R359). -/
theorem yieldsD_four16 {rd : Reg} {y3 y2 y1 y0 : Int}
    (hx : exec x σ = solo (withScale σ forced three fun j => .ok [.d rd (four16
      (lane16 σ j y3) (lane16 σ j y2) (lane16 σ j y1) (lane16 σ j y0))]) σ) :
    YieldsD x σ rd fun v =>
      hp v 3 = lane16 σ k y3 ∧ hp v 2 = lane16 σ k y2 ∧ hp v 1 = lane16 σ k y1 ∧ hp v 0 = lane16 σ k y0 :=
  yieldsD_of_withScale hk hx (hp_four16 ..)

end

end Sys2Proof.Machine
end

section
/-! SUPPORT. The statements of 46_alu_packed.md on packed sums, complex pairs and butterflies (R341..R369). -/

namespace Sys2Proof.Machine

/-- Settles O13: each lane is scaled and narrowed by itself. -/
theorem packedLanes16 : Obligations.PackedLanes16 := by
  intro σ rt rs rd h3
  have hk (f : Nat → Effect) : withScale σ false false f = f (shiftHere σ) := withScale_ok (.inl h3)
  refine ⟨⟨rfl, rfl⟩, ⟨rfl, rfl⟩, ⟨rfl, rfl⟩, fun hq => ?quads, ⟨⟨rfl, rfl⟩, ?a4⟩, ⟨⟨rfl, rfl⟩, ?s4⟩,
    ⟨⟨rfl, rfl⟩, ?ms4⟩, ⟨rfl, rfl⟩, ?ms2⟩
  case quads =>
    have hns : [rt, rs, rd].all quadOk = true := by simpa using hq
    refine ⟨?a8, ?s8, ?ms8⟩
    case a8 | s8 | ms8 => exact yieldsQ_lanes16 hk hns rfl
  case a4 | s4 | ms4 => exact yieldsD_lanes16 hk rfl
  case ms2 => exact yieldsL_lanes16 hk rfl

/-- Settles O14: the same with lanes of 32 bits. -/
theorem packedLanes32 : Obligations.PackedLanes32 := by
  intro σ rt rs rd h3
  have hk (f : Nat → Effect) : withScale σ false false f = f (shiftHere σ) := withScale_ok (.inl h3)
  refine ⟨⟨rfl, rfl⟩, ⟨rfl, rfl⟩, fun hq => ?all4, fun hq => ?al4, ⟨⟨rfl, rfl⟩, ?all2⟩, ⟨rfl, rfl⟩, ?al2⟩
  case all4 => exact yieldsQ_lanes32 hk (ns := [rt, rs, rd]) (by simpa using hq) rfl
  case al4 => exact yieldsQ_lanes32 hk (ns := [rs, rd]) (by simpa using hq) rfl
  case all2 | al2 => exact yieldsD_lanes32 hk rfl

/-- Settles O15: A81, A42 and A24 scale the sums of the model, A81 and A42 by 3 too; ALLFT41 and ALLFT22 never
scale. -/
theorem horizontalSums : Obligations.HorizontalSums := by
  intro σ rs rd hs S lane sum
  have hsum (start count : Nat) : sum start count = sumParts S start count := (sumParts_eq ..).symm
  have hns : [rs].all quadOk = true := by simpa using hs
  have hk (f : Nat → Effect) : withScale σ false true f = f (shiftHere σ) := withScale_ok (.inr rfl)
  simp only [hsum]
  refine ⟨⟨⟨rfl, rfl⟩, ?a81⟩, ⟨⟨rfl, rfl⟩, ?a42⟩, ⟨⟨rfl, rfl⟩, fun h3 => ?a24⟩, ⟨⟨rfl, rfl⟩, ?allft41⟩,
    ⟨rfl, rfl⟩, ?allft22⟩
  case a81 => exact yieldsH_of_withScale hk (exec_of_needQuad rfl hns rfl) rfl
  case a42 => exact yieldsL_of_withScale hk (exec_of_needQuad rfl hns rfl) (hp_two16 _ _)
  case a24 => exact yieldsD_lanes16 (fun f => withScale_ok (.inl h3)) (exec_of_needQuad rfl hns rfl)
  case allft41 => exact yieldsH_of (exec_of_needQuad rfl hns rfl) rfl
  case allft22 => exact yieldsL_two16 (exec_of_needQuad rfl hns rfl)

/-- Settles O16: the parts of the destination are those that the model packs. -/
theorem complexPairs : Obligations.ComplexPairs := by
  intro σ rt rs rd h3
  have hk (f : Nat → Effect) : withScale σ false false f = f (shiftHere σ) := withScale_ok (.inl h3)
  refine ⟨⟨rfl, rfl⟩, ⟨rfl, rfl⟩, ⟨rfl, rfl⟩, ⟨rfl, rfl⟩, ⟨rfl, rfl⟩, ⟨rfl, rfl⟩, fun hd => ?pairs, fun hq => ?quads,
    ⟨rfl, rfl⟩, ?asxs⟩
  case pairs =>
    have hns : [rd].all quadOk = true := by simpa using hd
    refine ⟨?asx2, ?asxs2, ?bf4, ?bif4⟩
    case asx2 | asxs2 | bf4 | bif4 => exact yieldsQ_of_withScale hk hns rfl (hps_eight16 ..)
  case quads =>
    have hns : [rt, rs, rd].all quadOk = true := by simpa using hq
    refine ⟨?axj4, ?sxj4⟩
    case axj4 | sxj4 => exact yieldsQ_fourComplex hk hns rfl
  case asxs => exact yieldsD_four16 hk rfl

/-- Settles O17: RA8 and RA4 write the running sums unscaled; A8s and S8s shift by the core's scale. -/
theorem accumulatingSums : Obligations.AccumulatingSums := by
  intro σ rt rs rd lane T S T' S'
  have hns (hq : quadOk rt = true ∧ quadOk rs = true ∧ quadOk rd = true) : [rt, rs, rd].all quadOk = true := by
    simpa using hq
  simp only [← runSum_eq]
  refine ⟨⟨rfl, rfl⟩, ⟨rfl, rfl⟩, ⟨rfl, rfl⟩, ⟨rfl, rfl⟩, fun h3 hq => ?sga8, fun h3 => ?sga4,
    fun h3 hq => ⟨?a8s, ?s8s⟩, ⟨rfl, rfl⟩, fun hq => ?ra8, ⟨rfl, rfl⟩, ?ra4⟩
  case sga8 => exact yieldsQ_lanes16 (fun f => withScale_ok (.inl h3)) (hns hq) rfl
  case sga4 => exact yieldsD_lanes16 (fun f => withScale_ok (.inl h3)) rfl
  case a8s | s8s => exact yieldsQ_lanes16 (fun f => withScale_forced h3) (hns hq) rfl
  case ra8 => exact yieldsQ_of_needQuad rfl (hns hq) fun i hi => hp_map8h _ i hi
  case ra4 => exact yieldsD_of rfl fun i hi => hp_map4h _ i hi

end Sys2Proof.Machine
end

section
/-! SUPPORT. The 64-bit ALU: sums, differences and merges as bit vectors, and the normalisation to the right as a
rounded half (48_alu64.md R405..R432). -/

namespace Sys2Proof.Machine

/-! ### Results modulo 2^64 -/

section
variable {n : Nat}

theorem wrap_add (x y : Int) : wrap n (x + y) = wrap n x + wrap n y := BitVec.ofInt_add x y

theorem wrap_neg (x : Int) : wrap n (-x) = -wrap n x := BitVec.ofInt_neg

theorem wrap_sub (x y : Int) : wrap n (x - y) = wrap n x - wrap n y := by
  rw [Int.sub_eq_add_neg, wrap_add, wrap_neg, BitVec.sub_eq_add_neg]

@[simp] theorem wrap_toNat (v : BitVec n) : wrap n v.toNat = v := by
  rw [wrap, BitVec.ofInt_natCast, BitVec.ofNat_toNat, BitVec.setWidth_eq]

@[simp] theorem wrap_toInt (v : BitVec n) : wrap n v.toInt = v := BitVec.ofInt_toInt

end

/-- CCR.C as a 64-bit number. -/
theorem wrap_carry (σ : State) : wrap 64 (carry σ) = if σ.flagC then 1 else 0 := by
  unfold carry
  split <;> rfl

/-! ### The logical operations -/

theorem getLsbD_not_of_lt {n i : Nat} (v : BitVec n) (hi : i < n) : (~~~v).getLsbD i = !v.getLsbD i := by
  rw [BitVec.getLsbD_not, decide_eq_true hi, Bool.true_and]

/-- Settles O1: each operation is the bit vectors' own, which is read bit by bit. -/
theorem logic64 : Obligations.Logic64 := by
  intro σ rt rs rd t s
  refine ⟨⟨⟨rfl, rfl⟩, ?andd⟩, ⟨⟨rfl, rfl⟩, ?andcd⟩, ⟨⟨rfl, rfl⟩, ?andid⟩, ⟨⟨rfl, rfl⟩, ?ord⟩, ⟨⟨rfl, rfl⟩, ?orcd⟩,
    ⟨⟨rfl, rfl⟩, ?orid⟩, ⟨⟨rfl, rfl⟩, ?eord⟩, ⟨rfl, rfl⟩, ?notd⟩
  case andd => exact yieldsD_of rfl fun n _ => BitVec.getLsbD_and
  case andcd =>
    exact yieldsD_of rfl fun n hn => BitVec.getLsbD_and.trans (congrArg (· && s n) (getLsbD_not_of_lt _ hn))
  case andid => exact yieldsD_of rfl fun n hn => (getLsbD_not_of_lt _ hn).trans (congrArg _ BitVec.getLsbD_and)
  case ord => exact yieldsD_of rfl fun n _ => BitVec.getLsbD_or
  case orcd =>
    exact yieldsD_of rfl fun n hn => BitVec.getLsbD_or.trans (congrArg (· || s n) (getLsbD_not_of_lt _ hn))
  case orid => exact yieldsD_of rfl fun n hn => (getLsbD_not_of_lt _ hn).trans (congrArg _ BitVec.getLsbD_or)
  case eord => exact yieldsD_of rfl fun n _ => BitVec.getLsbD_xor
  case notd => exact yieldsD_of rfl fun n hn => getLsbD_not_of_lt _ hn

/-! ### Sums and transfers -/

/-- Settles O2: the exact integer that each operation wraps is a sum of operands and the carry. -/
theorem arith64 : Obligations.Arith64 := by
  intro σ rt rs rd T S c
  refine ⟨⟨⟨rfl, rfl⟩, ?clrd⟩, ⟨⟨rfl, rfl⟩, ?addd⟩, ⟨⟨rfl, rfl⟩, ?subd⟩, ⟨⟨rfl, rfl⟩, ?adcd⟩, ⟨⟨rfl, rfl⟩, ?sbcd⟩,
    ⟨⟨rfl, rfl⟩, ?addld⟩, ⟨⟨rfl, rfl⟩, ?trd⟩, ⟨rfl, rfl⟩, ?trdB⟩
  case clrd | trd | trdB => exact yieldsD_of rfl rfl
  case addd => exact yieldsD_of rfl (by rw [wrap_add, wrap_toNat, wrap_toNat])
  case subd => exact yieldsD_of rfl (by rw [wrap_sub, wrap_toNat, wrap_toNat])
  case adcd => exact yieldsD_of rfl (by rw [wrap_add, wrap_add, wrap_toNat, wrap_toNat, wrap_carry])
  case sbcd => exact yieldsD_of rfl (by rw [wrap_sub, wrap_sub, wrap_sub, wrap_toNat, wrap_toNat, wrap_carry]; rfl)
  case addld => exact yieldsD_of rfl (by rw [wrap_add, wrap_toNat]; rfl)

/-! ### Merging, normalisation, negation -/

/-- INSD takes a bit of T where the bit of the mask S has the configured polarity, and keeps D elsewhere (R414). -/
theorem getLsbD_insd (polarity : Bool) (T S D : Dbl) {n : Nat} (hn : n < 64) :
    (if polarity then (D &&& ~~~S) ||| (T &&& S) else (T &&& ~~~S) ||| (D &&& S)).getLsbD n =
      if S.getLsbD n = polarity then T.getLsbD n else D.getLsbD n := by
  cases polarity <;> cases hs : S.getLsbD n <;> simp [getLsbD_not_of_lt S hn, hs]

/-- The lowest bit of a number is its parity. -/
theorem getLsbD_zero_iff_toInt_odd {n : Nat} (hn : 0 < n) (v : BitVec n) :
    v.getLsbD 0 = true ↔ v.toInt % 2 = 1 := by
  obtain ⟨m, rfl⟩ := Nat.exists_eq_add_one.mpr hn
  have hparity : v.getLsbD 0 = decide (v.toNat % 2 = 1) := by
    rw [BitVec.getLsbD, Nat.testBit_zero]
  rw [hparity, decide_eq_true_iff, BitVec.toInt_eq_toNat_cond]
  split <;> omega

/-- Rounding away one bit adds 1 just when the bit and the one above it are 1. -/
theorem rnd_one (x : Int) : rnd x 1 = if x % 2 = 1 ∧ x / 2 % 2 = 1 then x / 2 + 1 else x / 2 := by
  unfold rnd
  dsimp only
  split_ifs <;> omega

/-- The upper 64 bits of the 65-bit number {b, s}, b its sign, are half of it. -/
theorem toInt_upperHalf (b : Bool) (s : Dbl) :
    (BitVec.ofBool b ++ s.extractLsb' 1 63).toInt = (BitVec.ofBool b ++ s).toInt / 2 := by
  have hlow : (s.extractLsb' 1 63).toNat = s.toNat / 2 := by
    rw [BitVec.extractLsb'_toNat, Nat.shiftRight_eq_div_pow]
    have := s.isLt
    omega
  rw [BitVec.toInt_append, BitVec.toInt_append, hlow]
  norm_num
  omega

/-- NORVD with V = 1 halves the 65-bit number {not S[63], S}, a tie to the even result (R430). -/
theorem normalized_eq_rnd (s : Dbl) :
    normalized s = BitVec.ofInt 64 (rnd (BitVec.ofBool (!s.getLsbD 63) ++ s : BitVec 65).toInt 1) := by
  have hpushed : s.getLsbD 0 = true ↔ (BitVec.ofBool (!s.getLsbD 63) ++ s).toInt % 2 = 1 := by
    rw [← getLsbD_zero_iff_toInt_odd (by decide), BitVec.getLsbD_append, if_pos (by decide)]
  have hodd := getLsbD_zero_iff_toInt_odd (by decide) (BitVec.ofBool (!s.getLsbD 63) ++ s.extractLsb' 1 63)
  simp only [normalized, rnd_one, ← toInt_upperHalf, ← hpushed, ← hodd, Bool.and_eq_true]
  split
  · rw [BitVec.ofInt_add, BitVec.ofInt_toInt]
    rfl
  · exact BitVec.ofInt_toInt.symm

/-- NEGDE fits 64 bits unless it overflows (R432). -/
theorem toInt_wrap_neg {v : Dbl} (h : v ≠ 0x8000000000000000) : (wrap 64 (-v.toInt)).toInt = -v.toInt := by
  rw [wrap_neg, wrap_toInt]
  exact BitVec.toInt_neg_of_ne_intMin h

/-- An instruction that writes a 64-bit register and then V. -/
theorem next_setD_setV {x : Instr} {σ : State} {rd : Reg} {v : Dbl} {b : Bool}
    (hx : exec x σ = .next ((σ.onMe fun k => k.setD rd v).setV b)) :
    ∃ τ, exec x σ = .next τ ∧ τ.me.d rd = v ∧ τ.flagV = b ∧
      Frame σ τ (unitMask rd .w64) 0 (BitVec.twoPow 16 σ.cfg.ccrV.toNat) := by
  have hboth := (frame_setD σ rd v).trans (frame_setV (σ.onMe fun k => k.setD rd v) b)
  refine ⟨_, hx, ?_, State.flagV_setV _ b, ?_⟩
  · rw [State.setV, State.me_onMe, State.me_onMe]
    exact Core.d_setD_same σ.me rd v
  · simpa using hboth

/-- Settles O3: each instruction but NEGDE writes its one register; NEGDE writes D and V. -/
theorem denormalsAndNormalization : Obligations.DenormalsAndNormalization := by
  intro σ rt rs rd S
  refine ⟨⟨⟨rfl, rfl⟩, ?insd⟩, ⟨⟨rfl, rfl⟩, ?pdnd⟩, ⟨⟨rfl, rfl⟩, ?pdnxl⟩, ⟨⟨rfl, rfl⟩, ?pdnde⟩, ⟨⟨rfl, rfl⟩, ?norvd⟩,
    ⟨rfl, rfl⟩, ?negde⟩
  case insd => exact yieldsD_of rfl fun n hn => getLsbD_insd _ _ _ _ hn
  case pdnd | pdnxl => exact yieldsH_of rfl rfl
  case pdnde => exact yieldsL_of rfl ⟨fun h => if_pos h, fun h => if_neg h⟩
  case norvd =>
    refine yieldsD_of rfl ⟨fun hv => ?_, fun hv => ?_⟩
    · rw [hv]
      rfl
    · rw [hv]
      exact normalized_eq_rnd S
  case negde =>
    obtain ⟨τ, hx, hd, hv, hframe⟩ := next_setD_setV (x := .negde rs rd) (σ := σ) rfl
    refine ⟨τ, hx, fun hS => ?fits, fun hS => ?overflows, hframe⟩
    case fits =>
      have hno : negOverflows S = false := beq_false_of_ne hS
      rw [hno] at hd hv
      exact ⟨hd ▸ toInt_wrap_neg hS, hv⟩
    case overflows =>
      have hover : negOverflows S = true := beq_iff_eq.mpr hS
      rw [hover] at hd hv
      exact ⟨hd, hv⟩

end Sys2Proof.Machine
end

section
/-! SUPPORT. Packed comparisons and extremum searches: flags entering at the top of D, the extremum of the parts of an
operand and the number of its part (47_compare_minmax.md R380..R396). -/

namespace Sys2Proof.Machine

/-! ### Flags -/

theorem getLsbD_flags2 (f : Nat → Bool) : ∀ i < 2, (flags2 f).getLsbD i = f i
  | 0, _ => BitVec.getLsbD_append.trans (BitVec.getLsbD_ofBool (f 0) 0)
  | 1, _ => BitVec.getLsbD_append.trans (BitVec.getLsbD_ofBool (f 1) 0)

/-- A group of n flags above another group of n flags. -/
theorem getLsbD_flagGroups {n : Nat} {f : Nat → Bool} {upper lower : BitVec n}
    (hupper : ∀ i < n, upper.getLsbD i = f (i + n)) (hlower : ∀ i < n, lower.getLsbD i = f i) :
    ∀ i < n + n, (upper ++ lower).getLsbD i = f i := by
  intro i hi
  rw [BitVec.getLsbD_append]
  split_ifs with hlow
  · exact hlower i hlow
  · rw [hupper _ (by omega), Nat.sub_add_cancel (Nat.not_lt.mp hlow)]

theorem getLsbD_flags4 (f : Nat → Bool) : ∀ i < 4, (flags4 f).getLsbD i = f i :=
  getLsbD_flagGroups (getLsbD_flags2 fun i => f (i + 2)) (getLsbD_flags2 f)

theorem getLsbD_flags8 (f : Nat → Bool) : ∀ i < 8, (flags8 f).getLsbD i = f i :=
  getLsbD_flagGroups (getLsbD_flags4 fun i => f (i + 4)) (getLsbD_flags4 f)

/-- New flags at the top of D: D moves right by their number (R380). -/
theorem getLsbD_flagsIn {k m n : Nat} {flags : BitVec k} {f : Nat → Bool} (hf : ∀ i < k, flags.getLsbD i = f i)
    (d : BitVec n) : (∀ i < m, (flags ++ d.extractLsb' k m).getLsbD i = d.getLsbD (i + k)) ∧
      ∀ i < k, (flags ++ d.extractLsb' k m).getLsbD (m + i) = f i := by
  refine ⟨fun i hi => ?_, fun i hi => ?_⟩
  · rw [BitVec.getLsbD_append, if_pos hi, BitVec.getLsbD_extractLsb', decide_eq_true hi, Bool.true_and, Nat.add_comm]
  · rw [BitVec.getLsbD_append, if_neg (by omega), Nat.add_sub_cancel_left, hf i hi]

/-- Parts have equal signed values just when they are equal. -/
theorem flagZero_toInt {n : Nat} (s t : BitVec n) : flagZero s.toInt t.toInt = decide (s = t) :=
  decide_eq_decide.mpr BitVec.toInt_inj

/-- Settles O20: each instruction puts the flags of the parts above the moved D. -/
theorem packedCompare : Obligations.PackedCompare := by
  intro σ rt rs rd T S D TQ SQ DQ
  simp only [← flagZero_toInt]
  refine ⟨⟨⟨rfl, rfl⟩, ?cmpn4⟩, ⟨⟨rfl, rfl⟩, ?cmpz4⟩, ⟨⟨rfl, rfl⟩, ?cmpnl2⟩, ⟨⟨rfl, rfl⟩, ?cmpzl2⟩, ⟨rfl, rfl⟩,
    ⟨rfl, rfl⟩, ⟨rfl, rfl⟩, ⟨rfl, rfl⟩, fun hq => ?quads⟩
  case cmpn4 | cmpz4 => exact yieldsD_of rfl (getLsbD_flagsIn (getLsbD_flags4 _) D)
  case cmpnl2 | cmpzl2 => exact yieldsD_of rfl (getLsbD_flagsIn (getLsbD_flags2 _) D)
  case quads =>
    have hns : [rt, rs, rd].all quadOk = true := by simpa using hq
    refine ⟨?cmpn8, ?cmpz8, ?cmpnl4, ?cmpzl4⟩
    case cmpn8 | cmpz8 => exact yieldsQ_of_needQuad rfl hns (getLsbD_flagsIn (getLsbD_flags8 _) DQ)
    case cmpnl4 | cmpzl4 => exact yieldsQ_of_needQuad rfl hns (getLsbD_flagsIn (getLsbD_flags4 _) DQ)

/-! ### The extremum -/

theorem beats_max {x y : Int} : beats .max x y = true ↔ y ≤ x := decide_eq_true_iff

theorem beats_min {x y : Int} : beats .min x y = true ↔ x ≤ y := decide_eq_true_iff

theorem beats_refl (e : Extremum) (x : Int) : beats e x x = true := by
  cases e <;> exact decide_eq_true (le_refl x)

theorem beats_trans {e : Extremum} {x y z : Int} (hxy : beats e x y = true) (hyz : beats e y z = true) :
    beats e x z = true := by
  cases e
  case max => exact beats_max.mpr (le_trans (beats_max.mp hyz) (beats_max.mp hxy))
  case min => exact beats_min.mpr (le_trans (beats_min.mp hxy) (beats_min.mp hyz))

theorem beats_of_not_beats {e : Extremum} {x y : Int} (h : ¬beats e x y = true) : beats e y x = true := by
  cases e
  case max => exact beats_max.mpr (le_of_not_ge (mt beats_max.mpr h))
  case min => exact beats_min.mpr (le_of_not_ge (mt beats_min.mpr h))

section
variable (e : Extremum) (s : Nat → Int)

/-- The extremum is at least as extreme as every part (R380 (e)). -/
theorem extremum_beats : ∀ count, ∀ i ≤ count, beats e (extremum e s count) (s i) = true
  | 0, i, hi => by
    rw [Nat.le_zero.mp hi]
    exact beats_refl e (s 0)
  | count + 1, i, hi => by
    rw [extremum]
    split_ifs with hnew
    · rcases Nat.le_succ_iff.mp hi with hold | rfl
      · exact beats_trans hnew (extremum_beats count i hold)
      · exact beats_refl e _
    · rcases Nat.le_succ_iff.mp hi with hold | rfl
      · exact extremum_beats count i hold
      · exact beats_of_not_beats hnew

/-- The extremum is the value of a part. -/
theorem extremum_attained : ∀ count, ∃ i ≤ count, s i = extremum e s count
  | 0 => ⟨0, le_refl 0, rfl⟩
  | count + 1 => by
    rw [extremum]
    split_ifs
    · exact ⟨count + 1, le_refl _, rfl⟩
    · obtain ⟨i, hi, heq⟩ := extremum_attained count
      exact ⟨i, Nat.le_succ_of_le hi, heq⟩

end

/-! ### The number of the part -/

section
variable (s : Nat → Int) (x : Int)

/-- `lowestAt` finds the first of the candidates that has the value. -/
theorem lowestAt_spec : ∀ count start, (∃ i, start ≤ i ∧ i < start + count ∧ s i = x) →
    lowestAt s x count start < start + count ∧ s (lowestAt s x count start) = x ∧
      ∀ i, start ≤ i → i < start + count → s i = x → lowestAt s x count start ≤ i
  | 0, start, ⟨i, hlo, hhi, _⟩ => absurd hhi (Nat.not_lt.mpr hlo)
  | count + 1, start, ⟨i, hlo, hhi, hi⟩ => by
    rw [lowestAt]
    split_ifs with hstart
    · exact ⟨by omega, hstart, fun _ hj _ _ => hj⟩
    · have hlater : ∀ j, start ≤ j → s j = x → start + 1 ≤ j := fun j hj hx =>
        Nat.lt_of_le_of_ne hj fun heq => hstart (heq ▸ hx)
      obtain ⟨hlt, hval, hleast⟩ := lowestAt_spec count (start + 1) ⟨i, hlater i hlo hi, by omega, hi⟩
      exact ⟨by omega, hval, fun j hj hjlt hx => hleast j (hlater j hj hx) (by omega) hx⟩

/-- `highestAt` finds the last of the candidates that has the value. -/
theorem highestAt_spec : ∀ count, (∃ i < count, s i = x) →
    highestAt s x count < count ∧ s (highestAt s x count) = x ∧ ∀ i < count, s i = x → i ≤ highestAt s x count
  | 0, ⟨i, hi, _⟩ => absurd hi (Nat.not_lt_zero i)
  | count + 1, ⟨i, hi, hx⟩ => by
    rw [highestAt]
    split_ifs with hlast
    · exact ⟨Nat.lt_succ_self count, hlast, fun _ hj _ => Nat.le_of_lt_succ hj⟩
    · have hearlier : ∀ j < count + 1, s j = x → j < count := fun j hj hjx =>
        Nat.lt_of_le_of_ne (Nat.le_of_lt_succ hj) fun heq => hlast (heq ▸ hjx)
      obtain ⟨hlt, hval, hmost⟩ := highestAt_spec count ⟨i, hearlier i hi hx, hx⟩
      exact ⟨Nat.lt_succ_of_lt hlt, hval, fun j hj hjx => hmost j (hearlier j hj hjx) hjx⟩

/-- The local number is the one that the tie rule picks (R380). -/
theorem tiePick_localNumber (tie : Tie) {count : Nat} (h : ∃ i < count, s i = x) :
    TiePick tie s count x (localNumber tie s x count) := by
  cases tie
  case lowest =>
    obtain ⟨i, hi, hx⟩ := h
    obtain ⟨hlt, hval, hleast⟩ := lowestAt_spec s x count 0 ⟨i, Nat.zero_le i, by omega, hx⟩
    exact ⟨Nat.lt_of_lt_of_eq hlt (Nat.zero_add count), hval, fun j hj hjx => hleast j (Nat.zero_le j) (by omega) hjx⟩
  case highest => exact highestAt_spec s x count h

end

/-! ### The searches -/

/-- The top field of three. -/
theorem extract_top {a b c : Nat} (x : BitVec a) (y : BitVec b) (z : BitVec c) :
    (x ++ y ++ z).extractLsb' (b + c) a = x := by
  refine BitVec.eq_of_getLsbD_eq fun i hi => ?_
  rw [BitVec.getLsbD_extractLsb', decide_eq_true hi, Bool.true_and, BitVec.getLsbD_append, if_neg (by omega),
    BitVec.getLsbD_append, if_neg (by omega)]
  exact congrArg _ (by omega)

/-- The parts of a word above two halfwords. -/
theorem parts_word_halves (x : Word) (h1 h0 : Half) :
    wp (x ++ h1 ++ h0) 1 = x ∧ hp (x ++ h1 ++ h0) 1 = h1 ∧ hp (x ++ h1 ++ h0) 0 = h0 :=
  ⟨extract_top x h1 h0, extract_mid x h1 h0, extract_low (x ++ h1) h0⟩

/-- What a search finds: a value m at least as extreme as every part, and the number n that the tie rule picks for it
(R380 (e)). -/
def Finds (e : Extremum) (tie : Tie) (s : Nat → Int) (count : Nat) (m : Int) (n : Nat) : Prop :=
  (∀ i < count, beats e m (s i) = true) ∧ TiePick tie s count m n

/-- The extremum and its local number are what a search finds. -/
theorem finds_extremum (e : Extremum) (tie : Tie) (s : Nat → Int) {count : Nat} (hcount : 0 < count) :
    Finds e tie s count (extremum e s (count - 1)) (localNumber tie s (extremum e s (count - 1)) count) := by
  obtain ⟨i, hi, hx⟩ := extremum_attained e s (count - 1)
  exact ⟨fun j hj => extremum_beats e s _ j (by omega), tiePick_localNumber s _ tie ⟨i, by omega, hx⟩⟩

/-- The extremum of signed parts fits a part. -/
theorem toInt_wrap_extremum {n : Nat} (e : Extremum) (p : Nat → BitVec n) (count : Nat) :
    (wrap n (extremum e (fun i => (p i).toInt) count)).toInt = extremum e (fun i => (p i).toInt) count := by
  obtain ⟨i, -, hx⟩ := extremum_attained e (fun i => (p i).toInt) count
  rw [← hx, wrap_toInt]

/-- A search over 16-bit parts: what it finds replaces d3 and, with T added to the number, d0, if it beats d3; otherwise
D stays (R389, R391, R393, R395). -/
theorem search16_spec {w : Nat} (e : Extremum) (tie : Tie) (S : BitVec w) {count : Nat} (hcount : 0 < count) (t : Half)
    (d : Dbl) : ∃ m n, Finds e tie (sh S) count m n ∧
      (beats e m (sh d 3) = true → sh (search16 e tie (sh S) count t d) 3 = m ∧
        hp (search16 e tie (sh S) count t d) 2 = hp d 2 ∧ hp (search16 e tie (sh S) count t d) 1 = hp d 1 ∧
        hp (search16 e tie (sh S) count t d) 0 = t + BitVec.ofNat 16 n) ∧
      (¬beats e m (sh d 3) = true → search16 e tie (sh S) count t d = d) := by
  refine ⟨_, _, finds_extremum e tie (sh S) hcount, fun hnew => ?_, fun hold => if_neg hold⟩
  rw [search16, if_pos hnew]
  obtain ⟨h3, h2, h1, h0⟩ := hp_four16 (wrap 16 (extremum e (sh S) (count - 1))) (hp d 2) (hp d 1)
    (t + BitVec.ofNat 16 (localNumber tie (sh S) (extremum e (sh S) (count - 1)) count))
  exact ⟨(congrArg BitVec.toInt h3).trans (toInt_wrap_extremum e (hp S) _), h2, h1, h0⟩

/-- A search over 32-bit parts: the same with D1 and d0 (R390, R392, R394, R396). -/
theorem search32_spec {w : Nat} (e : Extremum) (tie : Tie) (S : BitVec w) {count : Nat} (hcount : 0 < count) (t : Half)
    (d : Dbl) : ∃ m n, Finds e tie (sw S) count m n ∧
      (beats e m (sw d 1) = true → sw (search32 e tie (sw S) count t d) 1 = m ∧
        hp (search32 e tie (sw S) count t d) 1 = hp d 1 ∧
        hp (search32 e tie (sw S) count t d) 0 = t + BitVec.ofNat 16 n) ∧
      (¬beats e m (sw d 1) = true → search32 e tie (sw S) count t d = d) := by
  refine ⟨_, _, finds_extremum e tie (sw S) hcount, fun hnew => ?_, fun hold => if_neg hold⟩
  rw [search32, if_pos hnew]
  obtain ⟨hx, h1, h0⟩ := parts_word_halves (wrap 32 (extremum e (sw S) (count - 1))) (hp d 1)
    (t + BitVec.ofNat 16 (localNumber tie (sw S) (extremum e (sw S) (count - 1)) count))
  exact ⟨(congrArg BitVec.toInt hx).trans (toInt_wrap_extremum e (wp S) _), h1, h0⟩

/-- A maximum beats what it is at least (R380 (e)). -/
theorem maximum_of_search {tie : Tie} {s : Nat → Int} {count : Nat} {d : Int} {found : Int → Nat → Prop} {old : Prop}
    (h : ∃ m n, Finds .max tie s count m n ∧ (beats .max m d = true → found m n) ∧ (¬beats .max m d = true → old)) :
    ∃ m n, (∀ i < count, s i ≤ m) ∧ TiePick tie s count m n ∧ (d ≤ m → found m n) ∧ (m < d → old) := by
  simpa only [Finds, beats_max, not_le, and_assoc] using h

/-- A minimum beats what it is at most. -/
theorem minimum_of_search {tie : Tie} {s : Nat → Int} {count : Nat} {d : Int} {found : Int → Nat → Prop} {old : Prop}
    (h : ∃ m n, Finds .min tie s count m n ∧ (beats .min m d = true → found m n) ∧ (¬beats .min m d = true → old)) :
    ∃ m n, (∀ i < count, m ≤ s i) ∧ TiePick tie s count m n ∧ (m ≤ d → found m n) ∧ (d < m → old) := by
  simpa only [Finds, beats_min, not_le, and_assoc] using h

end Sys2Proof.Machine
end

section
/-! SUPPORT. The statements of 47_compare_minmax.md on the searches (R389..R396), in a namespace apart from the model,
two of whose functions have their names. -/

namespace Sys2Proof.Searches

open Machine

/-- Settles O21: each instruction writes what its search finds, or D again. -/
theorem search16 : Obligations.Search16 := by
  intro σ rt rs rd D found maximum minimum
  refine ⟨⟨rfl, rfl⟩, ⟨rfl, rfl⟩, ⟨rfl, rfl⟩, ⟨rfl, rfl⟩, ?max4, ?min4, fun hs => ?quads⟩
  case max4 => exact yieldsD_of rfl (maximum_of_search (search16_spec .max _ _ (by decide) _ D))
  case min4 => exact yieldsD_of rfl (minimum_of_search (search16_spec .min _ _ (by decide) _ D))
  case quads =>
    have hns : [rs].all quadOk = true := by simpa using hs
    exact ⟨yieldsD_of (exec_of_needQuad rfl hns rfl) (maximum_of_search (search16_spec .max _ _ (by decide) _ D)),
      yieldsD_of (exec_of_needQuad rfl hns rfl) (minimum_of_search (search16_spec .min _ _ (by decide) _ D))⟩

/-- Settles O22, as O21 over 32-bit parts. -/
theorem search32 : Obligations.Search32 := by
  intro σ rt rs rd D found maximum minimum
  refine ⟨⟨rfl, rfl⟩, ⟨rfl, rfl⟩, ⟨rfl, rfl⟩, ⟨rfl, rfl⟩, ?maxl2, ?minl2, fun hs => ?quads⟩
  case maxl2 => exact yieldsD_of rfl (maximum_of_search (search32_spec .max _ _ (by decide) _ D))
  case minl2 => exact yieldsD_of rfl (minimum_of_search (search32_spec .min _ _ (by decide) _ D))
  case quads =>
    have hns : [rs].all quadOk = true := by simpa using hs
    exact ⟨yieldsD_of (exec_of_needQuad rfl hns rfl) (maximum_of_search (search32_spec .max _ _ (by decide) _ D)),
      yieldsD_of (exec_of_needQuad rfl hns rfl) (minimum_of_search (search32_spec .min _ _ (by decide) _ D))⟩

end Sys2Proof.Searches
end

section
/-! SUPPORT. The transfer block: an operation that both slots hold, unsigned saturation, the packed and the interleaved
words (49_trs.md R435..R456). -/

namespace Sys2Proof.Machine

/-! ### The two slots -/

/-- An operation that both slots hold under one code: `same` says that its OP2 form has what its OP1 form has. -/
theorem inBothSlots {x xB : Instr} {code : BitVec 7} {Q : Instr × Place → Prop} (hx : Encoded x .op1 code)
    (hxB : Encoded xB .op2 code) (hQ : Q (x, .op1)) (same : Q (x, .op1) → Q (xB, .op2)) :
    ∀ p ∈ [(x, Place.op1), (xB, .op2)], Encoded p.1 p.2 code ∧ Q p := by
  simp only [List.forall_mem_cons, List.not_mem_nil, false_imp_iff, implies_true, and_true]
  exact ⟨⟨hx, hQ⟩, hxB, same hQ⟩

/-! ### Permutations -/

/-- Four halfwords as a list, most significant first. -/
theorem hps_four16 (x3 x2 x1 x0 : Half) :
    [hp (four16 x3 x2 x1 x0) 3, hp (four16 x3 x2 x1 x0) 2, hp (four16 x3 x2 x1 x0) 1, hp (four16 x3 x2 x1 x0) 0] =
      [x3, x2, x1, x0] := by
  obtain ⟨h3, h2, h1, h0⟩ := hp_four16 x3 x2 x1 x0
  rw [h3, h2, h1, h0]

/-- Settles O29: the parts written are those that the rule lists; in OP2 the operation is the same. -/
theorem transferPermutations : Obligations.TransferPermutations := by
  intro σ rt rs rd T S parts4 parts8
  refine ⟨inBothSlots ⟨rfl, rfl⟩ ⟨rfl, rfl⟩ ?trs1 id, inBothSlots ⟨rfl, rfl⟩ ⟨rfl, rfl⟩ ?trs2 id,
    inBothSlots ⟨rfl, rfl⟩ ⟨rfl, rfl⟩ ?trs3 id, inBothSlots ⟨rfl, rfl⟩ ⟨rfl, rfl⟩ ?trs9 id,
    inBothSlots ⟨rfl, rfl⟩ ⟨rfl, rfl⟩ ?trs10 id, inBothSlots ⟨rfl, rfl⟩ ⟨rfl, rfl⟩ ?trs0 id,
    inBothSlots ⟨rfl, rfl⟩ ⟨rfl, rfl⟩ ?trs11 id, inBothSlots ⟨rfl, rfl⟩ ⟨rfl, rfl⟩ ?trs12 id,
    inBothSlots ⟨rfl, rfl⟩ ⟨rfl, rfl⟩ ?trs13 id⟩
  case trs1 | trs2 | trs3 | trs9 | trs10 => exact yieldsD_of rfl (hps_four16 ..)
  case trs0 => exact fun hq => yieldsQ_of_needQuad (ns := [rs, rd]) rfl (by simpa using hq) rfl
  case trs11 | trs12 | trs13 =>
    exact fun hd => yieldsQ_of_needQuad (ns := [rd]) rfl (by simpa using hd) (hps_eight16 ..)

/-! ### Conversions -/

/-- `sat_uN(x)` is x clamped to the unsigned range of n bits. -/
theorem toNat_satU (n : Nat) (x : Int) : ((satU n x).toNat : Int) = max 0 (min (2 ^ n - 1) x) := by
  have hpos : (0 : Int) < 2 ^ n := by positivity
  have hc := clamp_eq_max_min (show (0 : Int) ≤ 2 ^ n - 1 by omega) x
  rw [satU, hc, BitVec.toNat_ofInt, Int.toNat_of_nonneg (Int.emod_nonneg _ (by positivity))]
  exact Int.emod_eq_of_lt (by omega) (by push_cast; omega)

/-- A byte above a zero byte is 256 times its value. -/
theorem toNat_append_zeroByte (b : BitVec 8) : (b ++ 0#8).toNat = 256 * b.toNat := by
  rw [BitVec.toNat_append, BitVec.toNat_ofNat, Nat.shiftLeft_eq]
  simp [Nat.mul_comm]

/-- Settles O30: each widened or narrowed part is the conversion of its own part of S. -/
theorem transferConversions : Obligations.TransferConversions := by
  intro σ rs rd B h w clampS clampU
  have hns {r : Reg} (hr : quadOk r = true) : [r].all quadOk = true := by simpa using hr
  refine ⟨inBothSlots ⟨rfl, rfl⟩ ⟨rfl, rfl⟩ (fun hd => ?trs4) id,
    inBothSlots ⟨rfl, rfl⟩ ⟨rfl, rfl⟩ (fun hd => ?trs5) id,
    inBothSlots ⟨rfl, rfl⟩ ⟨rfl, rfl⟩ (fun hd => ?trs6) id, inBothSlots ⟨rfl, rfl⟩ ⟨rfl, rfl⟩ (fun hs => ?trs7) id,
    inBothSlots ⟨rfl, rfl⟩ ⟨rfl, rfl⟩ (fun hs => ?trs8) id, inBothSlots ⟨rfl, rfl⟩ ⟨rfl, rfl⟩ (fun hs => ?trs19) id,
    inBothSlots ⟨rfl, rfl⟩ ⟨rfl, rfl⟩ (fun hs => ?trs15) id, inBothSlots ⟨rfl, rfl⟩ ⟨rfl, rfl⟩ (fun hs => ?trs16) id,
    inBothSlots ⟨rfl, rfl⟩ ⟨rfl, rfl⟩ (fun hs => ?trs17) id⟩
  case trs4 =>
    refine yieldsQ_of_needQuad rfl (hns hd) fun i hi => ?_
    rw [hp_map8h _ i hi]
    exact toNat_append_zeroByte (B i)
  case trs5 =>
    refine yieldsQ_of_needQuad rfl (hns hd) fun i hi => ?_
    rw [sh, hp_map8h _ i hi]
    exact BitVec.toInt_signExtend_of_le (by decide)
  case trs6 =>
    refine yieldsQ_of_needQuad rfl (hns hd) fun i hi => ?_
    rw [hp_map8h _ i hi]
    exact BitVec.toNat_setWidth_of_le (by decide)
  case trs7 | trs19 =>
    refine yieldsD_of (exec_of_needQuad rfl (hns hs) rfl) fun i hi => ?_
    rw [bp_map8b _ i hi]
    exact toInt_satS (by decide) _
  case trs8 =>
    refine yieldsD_of (exec_of_needQuad rfl (hns hs) rfl) fun i hi => ?_
    rw [bp_map8b _ i hi]
    exact toNat_satU 8 (h i)
  case trs15 | trs16 =>
    refine yieldsD_of (exec_of_needQuad rfl (hns hs) rfl) fun i hi => ?_
    rw [sh, hp_map4h _ i hi]
    exact toInt_satS (by decide) _
  case trs17 =>
    refine yieldsD_of (exec_of_needQuad rfl (hns hs) rfl) fun i hi => ?_
    rw [hp_map4h _ i hi]
    exact toNat_satU 16 (w i)

/-! ### Packing -/

/-- The fields of a packed halfword: 5, 6 and 5 bits, each a clamped part (R451). -/
theorem pack565_fields (x : Dbl) : (((pack565 x).extractLsb' 11 5).toNat : Int) = max 0 (min 31 (sh x 2)) ∧
    (((pack565 x).extractLsb' 5 6).toNat : Int) = max 0 (min 63 (sh x 1)) ∧
    (((pack565 x).extractLsb' 0 5).toNat : Int) = max 0 (min 31 (sh x 0)) := by
  have h2 : (pack565 x).extractLsb' 11 5 = satU 5 (sh x 2) := extract_top _ (satU 6 (sh x 1)) (satU 5 (sh x 0))
  have h1 : (pack565 x).extractLsb' 5 6 = satU 6 (sh x 1) := extract_mid _ _ _
  have h0 : (pack565 x).extractLsb' 0 5 = satU 5 (sh x 0) := extract_low _ _
  rw [h2, h1, h0]
  exact ⟨toNat_satU 5 _, toNat_satU 6 _, toNat_satU 5 _⟩

/-- A field of the upper halfword. -/
theorem extract_two16_upper (x1 x0 : Half) (lo n : Nat) :
    (two16 x1 x0).extractLsb' (16 + lo) n = x1.extractLsb' lo n := by
  refine BitVec.eq_of_getLsbD_eq fun i hi => ?_
  simp only [two16, BitVec.getLsbD_extractLsb', BitVec.getLsbD_append]
  rw [if_neg (by omega)]
  exact congrArg _ (congrArg _ (by omega))

/-- A field of the lower halfword. -/
theorem extract_two16_lower (x1 x0 : Half) {lo n : Nat} (h : lo + n ≤ 16) :
    (two16 x1 x0).extractLsb' lo n = x0.extractLsb' lo n := by
  refine BitVec.eq_of_getLsbD_eq fun i hi => ?_
  simp only [two16, BitVec.getLsbD_extractLsb', BitVec.getLsbD_append]
  rw [if_pos (by omega)]

/-- The bits of T stand in the odd places and those of S in the even ones (R455). -/
theorem getLsbD_interleaveBits (t s : Half) : ∀ count ≤ 16, ∀ i < count,
    (interleaveBits t s count).getLsbD (2 * i + 1) = t.getLsbD i ∧
      (interleaveBits t s count).getLsbD (2 * i) = s.getLsbD i
  | 0, _, i, hi => absurd hi (Nat.not_lt_zero i)
  | count + 1, hcount, i, hi => by
    rw [interleaveBits, getLsbD_setBit, getLsbD_setBit, getLsbD_setBit, getLsbD_setBit]
    rcases Nat.lt_succ_iff_lt_or_eq.mp hi with hold | rfl
    · rw [if_neg (by omega), if_neg (by omega), if_neg (by omega), if_neg (by omega)]
      exact getLsbD_interleaveBits t s count (by omega) i hold
    · rw [if_pos (by omega), if_neg (by omega), if_pos (by omega)]
      exact ⟨rfl, rfl⟩

/-- Settles O31: the six clamped fields of TRS14, and the bit pairs of TRS18. -/
theorem transferPacking : Obligations.TransferPacking := by
  intro σ rt rs rd field clamped T S
  refine ⟨inBothSlots ⟨rfl, rfl⟩ ⟨rfl, rfl⟩ ?trs14 id, inBothSlots ⟨rfl, rfl⟩ ⟨rfl, rfl⟩ ?trs18 id⟩
  case trs14 =>
    obtain ⟨ht2, ht1, ht0⟩ := pack565_fields T
    obtain ⟨hs2, hs1, hs0⟩ := pack565_fields S
    have upper (lo n : Nat) :
        field (two16 (pack565 T) (pack565 S)) (16 + lo) n = ((pack565 T).extractLsb' lo n).toNat :=
      congrArg (fun v : BitVec n => (v.toNat : Int)) (extract_two16_upper _ _ lo n)
    have lower (lo n : Nat) (h : lo + n ≤ 16) :
        field (two16 (pack565 T) (pack565 S)) lo n = ((pack565 S).extractLsb' lo n).toNat :=
      congrArg (fun v : BitVec n => (v.toNat : Int)) (extract_two16_lower _ _ h)
    exact yieldsL_of rfl ⟨(upper 11 5).trans ht2, (upper 5 6).trans ht1, (upper 0 5).trans ht0,
      (lower 11 5 (by decide)).trans hs2, (lower 5 6 (by decide)).trans hs1, (lower 0 5 (by decide)).trans hs0⟩
  case trs18 => exact yieldsL_of rfl (getLsbD_interleaveBits _ _ 16 (le_refl 16))

end Sys2Proof.Machine
end

section
/-! SUPPORT. One step of a core in the order of 60_exceptions.md R497: a held access, the breakpoints, the interrupt,
the next instruction (60_exceptions.md R470, R472, R486, R487; 41_control_and_changed_results.md R220). -/

namespace Sys2Proof.Machine

/-! ### When an interrupt may be taken -/

/-- The core's own conditions of R470, with the held access of R493. -/
theorem Core.accepts_iff {k : Core} :
    k.accepts = true ↔ (k.irqr &&& k.imaskr ≠ 0 ∧ k.inIsr = false) ∧ k.held = none := by
  simp [Core.accepts, Core.pending]

/-! ### The entry with a full stack -/

theorem Core.jsrIvar_of_full {k : Core} {depth : Nat} (h : depth ≤ k.pcstack.length) :
    k.jsrIvar depth = k.stackFail :=
  if_neg (Nat.not_lt.mpr h)

/-- A core that has started for an interrupt and found its stack full. -/
def State.overflowed (σ : State) (k : Core) : Core :=
  { k.startRun.stackFail with irqr := σ.acceptedIrqr k, hist := [] }

/-- The entry of a core whose stack is full (41_control_and_changed_results.md R220). -/
theorem takeInterrupt_of_full {σ : State} (hivar : σ.me.ivar.toNat ≤ 0x1FFF)
    (hfull : σ.cfg.stackDepth ≤ σ.me.pcstack.length) :
    takeInterrupt σ = .next { σ.onMe σ.overflowed with
      free := if σ.cfg.irqrAutoclear then σ.free + 1 else σ.free } := by
  rw [takeInterrupt, if_neg (Nat.not_lt.mpr hivar)]
  have hcore :=
    (congrArg (Core.jsrIvar σ.cfg.stackDepth) (σ.clearPicked_eq σ.me.startRun)).trans (Core.jsrIvar_of_full hfull)
  exact congrArg Host.Outcome.next (State.eq_onMe_withFree (congrArg (fun k : Core => { k with hist := [] }) hcore))

/-- An IVAR outside PRAM is refused (70_reset_and_hazards.md R527). -/
theorem takeInterrupt_of_ivar_outside {σ : State} (hivar : 0x1FFF < σ.me.ivar.toNat) :
    takeInterrupt σ = .refused .pcOutsidePram :=
  if_pos hivar

/-! ### The step of a core, case by case -/

/-- A core after both of its breakpoint stops, each made only when its own breakpoint matches (R486, R487). -/
def Core.stoppedAt (k : Core) : Core :=
  { k.sarStop with dbDcsr := k.dbSarStop.dbDcsr, dbBpAt := k.dbSarStop.dbBpAt }

section
variable {σ : State} {take : Bool} (hclk : σ.clk σ.turn = true)
include hclk

/-- A core that has had a stack error and would go on is refused (R220). -/
theorem coreStep_stackErr (herr : σ.me.stackErr = true)
    (hon : σ.me.stopped = false ∨ (take = true ∧ σ.me.accepts = true)) : coreStep take σ = .refused .stackError := by
  rcases hon with hrun | ⟨htake, hacc⟩
  · simp [coreStep, hclk, herr, hrun]
  · simp [coreStep, hclk, herr, htake, hacc]

section
variable (herr : σ.me.stackErr = false)
include herr

/-- A held access is tested again (60_exceptions.md R493). -/
theorem coreStep_held {x : Insn} (hheld : σ.me.held = some x) : coreStep take σ = runInsn x σ := by
  simp [coreStep, hclk, herr, hheld]

/-- With no access held and no breakpoint at the pc: the interrupt, the next instruction, or nothing. -/
theorem coreStep_of_no_breakpoint (hheld : σ.me.held = none) (hsar : σ.me.sarMatch = false)
    (hdb : σ.me.dbSarMatch = false) : coreStep take σ =
      if take && σ.me.accepts then takeInterrupt σ else if !σ.me.stopped then runNext σ else .next σ := by
  simp [coreStep, hclk, herr, hheld, hsar, hdb]

/-- A breakpoint at the pc, one that has not just stopped the core, stops it (R486, R487). -/
theorem coreStep_breakpoint (hheld : σ.me.held = none) (hmatch : (σ.me.sarMatch || σ.me.dbSarMatch) = true)
    (hnew : σ.me.rearmed = false) : coreStep take σ = .next (σ.onMe Core.stoppedAt) := by
  simp only [coreStep, hclk, herr, hheld, hmatch, hnew]
  rfl

end

end

/-- Settles O47, along the order of R497. -/
theorem interruptAcceptance : Obligations.InterruptAcceptance := by
  intro σ take hclk may
  refine ⟨fun herr => ⟨fun x hheld => coreStep_held hclk herr hheld, fun hheld hsar hdb => ⟨fun hmay => ?taken,
    fun hnot => ?left⟩⟩, fun herr hon => ?stackError⟩
  case taken =>
    obtain ⟨htake, hconditions⟩ := hmay
    have hacc : σ.me.accepts = true := Core.accepts_iff.mpr ⟨hconditions, hheld⟩
    have hstep : coreStep take σ = takeInterrupt σ := by
      rw [coreStep_of_no_breakpoint hclk herr hheld hsar hdb, htake, hacc]
      rfl
    refine ⟨hstep, fun hivar => hstep.trans (takeInterrupt_of_ivar_outside hivar), fun hivar hfull =>
      ⟨_, hstep.trans (takeInterrupt_of_full hivar hfull), ?_⟩⟩
    generalize (if σ.cfg.irqrAutoclear then σ.free + 1 else σ.free) = n
    have hme : State.me { σ.onMe σ.overflowed with free := n } = σ.overflowed σ.me := σ.me_onMe _
    rw [hme]
    exact ⟨(getLsbD_setBit _ _ _ _).trans (if_pos (by decide)), rfl, rfl, rfl⟩
  case left =>
    have hno : (take && σ.me.accepts) = false := by
      refine Bool.eq_false_iff.mpr fun hboth => hnot ?_
      obtain ⟨htake, hacc⟩ := Bool.and_eq_true_iff.mp hboth
      exact ⟨htake, (Core.accepts_iff.mp hacc).1⟩
    rw [coreStep_of_no_breakpoint hclk herr hheld hsar hdb, hno]
    exact ⟨fun hrun => by rw [hrun]; rfl, fun hstop => by rw [hstop]; rfl⟩
  case stackError =>
    refine coreStep_stackErr hclk herr (hon.imp_right ?_)
    rintro ⟨⟨htake, hconditions⟩, hheld⟩
    exact ⟨htake, Core.accepts_iff.mpr ⟨hconditions, hheld⟩⟩

/-! ### Breakpoints -/

theorem Core.sarMatch_iff {k : Core} :
    k.sarMatch = true ↔ k.run = true ∧ k.pc.toNat ≤ 0x1FFF ∧ k.pc ∈ k.sars.toList := by
  simp [Core.sarMatch, Core.inPram, and_assoc]

theorem Core.dbSarMatch_iff {k : Core} :
    k.dbSarMatch = true ↔ k.dbRun = true ∧ k.pc.toNat ≤ 0x1FFF ∧ k.pc ∈ k.dbSars.toList := by
  simp [Core.dbSarMatch, Core.inPram, and_assoc]

/-- A pc above 0x1FFF matches no breakpoint. -/
theorem Core.no_match_outside {k : Core} (hpc : 0x1FFF < k.pc.toNat) : k.sarMatch = false ∧ k.dbSarMatch = false := by
  have hout : k.inPram = false := decide_eq_false (Nat.not_le.mpr hpc)
  simp [Core.sarMatch, Core.dbSarMatch, hout]

/-- What a stop writes to DCSR or dbDCSR: bit 2 set, bit 14 cleared (R486, R487). -/
def stopBits (v : Half) : Half := setBit (setBit v 2 true) 14 false

theorem getLsbD_stopBits (v : Half) (j : Nat) :
    (stopBits v).getLsbD j = if j = 14 then false else if j = 2 then true else v.getLsbD j := by
  simp [stopBits, getLsbD_setBit]

theorem stopBits_spec (v : Half) : (stopBits v).getLsbD 14 = false ∧ (stopBits v).getLsbD 2 = true ∧
    ∀ j, j ≠ 14 → j ≠ 2 → (stopBits v).getLsbD j = v.getLsbD j :=
  ⟨getLsbD_stopBits v 14, getLsbD_stopBits v 2, fun j h14 h2 => by rw [getLsbD_stopBits, if_neg h14, if_neg h2]⟩

section
variable (k : Core)

theorem Core.dcsr_stoppedAt : k.stoppedAt.dcsr = if k.sarMatch = true then stopBits k.dcsr else k.dcsr := by
  unfold Core.stoppedAt Core.sarStop
  split <;> rfl

theorem Core.dbDcsr_stoppedAt :
    k.stoppedAt.dbDcsr = if k.dbSarMatch = true then stopBits k.dbDcsr else k.dbDcsr := by
  unfold Core.stoppedAt Core.dbSarStop
  split <;> rfl

/-- The stops change DCSR, dbDCSR and the marks of the breakpoints alone. -/
theorem Core.stoppedAt_frame : k.stoppedAt = { k with
    dcsr := k.stoppedAt.dcsr, dbDcsr := k.stoppedAt.dbDcsr, bpAt := k.stoppedAt.bpAt,
    dbBpAt := k.stoppedAt.dbBpAt } := by
  unfold Core.stoppedAt Core.sarStop
  split <;> rfl

end

/-- No fetch above 0x1FFF (70_reset_and_hazards.md R527). -/
theorem runNext_of_pc_outside {σ : State} (hpc : 0x1FFF < σ.me.pc.toNat) : runNext σ = .refused .pcOutsidePram := by
  have hfetch : fetch σ = .refused .pcOutsidePram := if_pos hpc
  rw [runNext, hfetch]

/-- Settles O51: the step at a breakpoint is the two stops, each made when its own breakpoint matches. -/
theorem breakpointStops : Obligations.BreakpointStops := by
  intro σ take hclk herr hheld hbp hdbbp k reg dbg
  refine ⟨fun hrun hpc => ?outside, fun hmatch => ?stops⟩
  case outside =>
    obtain ⟨hsar, hdb⟩ := Core.no_match_outside hpc
    rw [coreStep_of_no_breakpoint hclk herr hheld hsar hdb, hrun]
    exact runNext_of_pc_outside hpc
  case stops =>
    have hany : (σ.me.sarMatch || σ.me.dbSarMatch) = true :=
      Bool.or_eq_true_iff.mpr (hmatch.imp Core.sarMatch_iff.mpr Core.dbSarMatch_iff.mpr)
    have hnew : σ.me.rearmed = false := by simp [Core.rearmed, hbp, hdbbp]
    refine ⟨_, coreStep_breakpoint hclk herr hheld hany hnew, ?_⟩
    rw [State.me_onMe, Core.run, Core.dbRun, Core.dcsr_stoppedAt, Core.dbDcsr_stoppedAt]
    refine ⟨fun hreg => ?_, fun hreg => if_neg (mt Core.sarMatch_iff.mp hreg), fun hdbg => ?_,
      fun hdbg => if_neg (mt Core.dbSarMatch_iff.mp hdbg), ?_⟩
    · rw [if_pos (Core.sarMatch_iff.mpr hreg)]
      exact stopBits_spec _
    · rw [if_pos (Core.dbSarMatch_iff.mpr hdbg)]
      exact stopBits_spec _
    · rw [← Core.dcsr_stoppedAt, ← Core.dbDcsr_stoppedAt]
      exact σ.onMe_congr σ.me.stoppedAt_frame

end Sys2Proof.Machine
end
